-- ==== Sys2Proof/Word.lean ====
section
/-! DEFINITION. The machine's words: the widths the spec gives its registers, parcels, bytes and register numbers
(R7 in 00_scope.md, R20 in 10_state.md, R50 in 20_memory.md, R81 in 30_encoding.md). -/

namespace Sys2Proof

/-- A register value or an address: 32 bits (R7). -/
abbrev Word := BitVec 32

/-- A 16-bit instruction parcel (R52, R81). -/
abbrev Half := BitVec 16

/-- The smallest addressable unit (R50). -/
abbrev Byte := BitVec 8

/-- The number of a general register, `x0` to `x31` (R20). -/
abbrev Reg := Fin 32

end Sys2Proof
end

