-- ==== Sys2Proof/Syntax.lean ====
section
/-! DEFINITION. The instructions: one constructor for each of the 127 rows of spec/opcode_table.json, in the table's
order, with the operands in the order of the assembler syntax (R99 in 30_encoding.md, R241 in 45_c_extension.md).
Immediates keep the width the instruction's rule gives the operand; a branch or jump offset is the signed byte
distance itself (R101), so its bit 0 is 0 in a well-formed instruction (WellFormed.lean). -/

namespace Sys2Proof

inductive Instr where
  -- RV32I, integer register-register (R121 to R130)
  | add (rd rs1 rs2 : Reg)
  | sub (rd rs1 rs2 : Reg)
  | slt (rd rs1 rs2 : Reg)
  | sltu (rd rs1 rs2 : Reg)
  | and (rd rs1 rs2 : Reg)
  | or (rd rs1 rs2 : Reg)
  | xor (rd rs1 rs2 : Reg)
  | sll (rd rs1 rs2 : Reg)
  | srl (rd rs1 rs2 : Reg)
  | sra (rd rs1 rs2 : Reg)
  -- RV32I, integer register-immediate (R131 to R139)
  | addi (rd rs1 : Reg) (imm : BitVec 12)
  | slti (rd rs1 : Reg) (imm : BitVec 12)
  | sltiu (rd rs1 : Reg) (imm : BitVec 12)
  | andi (rd rs1 : Reg) (imm : BitVec 12)
  | ori (rd rs1 : Reg) (imm : BitVec 12)
  | xori (rd rs1 : Reg) (imm : BitVec 12)
  | slli (rd rs1 : Reg) (shamt : BitVec 5)
  | srli (rd rs1 : Reg) (shamt : BitVec 5)
  | srai (rd rs1 : Reg) (shamt : BitVec 5)
  -- RV32I, large immediate (R140, R141)
  | lui (rd : Reg) (imm : BitVec 20)
  | auipc (rd : Reg) (imm : BitVec 20)
  -- RV32I, control transfer (R150 to R157)
  | jal (rd : Reg) (offset : BitVec 21)
  | jalr (rd rs1 : Reg) (imm : BitVec 12)
  | beq (rs1 rs2 : Reg) (offset : BitVec 13)
  | bne (rs1 rs2 : Reg) (offset : BitVec 13)
  | blt (rs1 rs2 : Reg) (offset : BitVec 13)
  | bge (rs1 rs2 : Reg) (offset : BitVec 13)
  | bltu (rs1 rs2 : Reg) (offset : BitVec 13)
  | bgeu (rs1 rs2 : Reg) (offset : BitVec 13)
  -- RV32I, load and store (R171 to R178)
  | lw (rd : Reg) (imm : BitVec 12) (rs1 : Reg)
  | lh (rd : Reg) (imm : BitVec 12) (rs1 : Reg)
  | lhu (rd : Reg) (imm : BitVec 12) (rs1 : Reg)
  | lb (rd : Reg) (imm : BitVec 12) (rs1 : Reg)
  | lbu (rd : Reg) (imm : BitVec 12) (rs1 : Reg)
  | sw (rs2 : Reg) (imm : BitVec 12) (rs1 : Reg)
  | sh (rs2 : Reg) (imm : BitVec 12) (rs1 : Reg)
  | sb (rs2 : Reg) (imm : BitVec 12) (rs1 : Reg)
  -- M (R190 to R197)
  | mul (rd rs1 rs2 : Reg)
  | mulh (rd rs1 rs2 : Reg)
  | mulhsu (rd rs1 rs2 : Reg)
  | mulhu (rd rs1 rs2 : Reg)
  | div (rd rs1 rs2 : Reg)
  | divu (rd rs1 rs2 : Reg)
  | rem (rd rs1 rs2 : Reg)
  | remu (rd rs1 rs2 : Reg)
  -- A (R211 to R221); `aq` and `rl` are bits 26 and 25 of the word (R90)
  | lrW (rd rs1 : Reg) (aq rl : Bool)
  | scW (rd rs2 rs1 : Reg) (aq rl : Bool)
  | amoswapW (rd rs2 rs1 : Reg) (aq rl : Bool)
  | amoaddW (rd rs2 rs1 : Reg) (aq rl : Bool)
  | amoxorW (rd rs2 rs1 : Reg) (aq rl : Bool)
  | amoandW (rd rs2 rs1 : Reg) (aq rl : Bool)
  | amoorW (rd rs2 rs1 : Reg) (aq rl : Bool)
  | amominW (rd rs2 rs1 : Reg) (aq rl : Bool)
  | amomaxW (rd rs2 rs1 : Reg) (aq rl : Bool)
  | amominuW (rd rs2 rs1 : Reg) (aq rl : Bool)
  | amomaxuW (rd rs2 rs1 : Reg) (aq rl : Bool)
  -- Zicsr and trap request (R281 to R288)
  | csrrw (rd : Reg) (csr : BitVec 12) (rs1 : Reg)
  | csrrc (rd : Reg) (csr : BitVec 12) (rs1 : Reg)
  | csrrs (rd : Reg) (csr : BitVec 12) (rs1 : Reg)
  | csrrwi (rd : Reg) (csr : BitVec 12) (uimm : BitVec 5)
  | csrrci (rd : Reg) (csr : BitVec 12) (uimm : BitVec 5)
  | csrrsi (rd : Reg) (csr : BitVec 12) (uimm : BitVec 5)
  | ecall
  | ebreak
  -- Zba (R301 to R303)
  | sh1add (rd rs1 rs2 : Reg)
  | sh2add (rd rs1 rs2 : Reg)
  | sh3add (rd rs1 rs2 : Reg)
  -- Zbb (R304 to R321)
  | andn (rd rs1 rs2 : Reg)
  | clz (rd rs1 : Reg)
  | cpop (rd rs1 : Reg)
  | ctz (rd rs1 : Reg)
  | max (rd rs1 rs2 : Reg)
  | maxu (rd rs1 rs2 : Reg)
  | min (rd rs1 rs2 : Reg)
  | minu (rd rs1 rs2 : Reg)
  | orcB (rd rs1 : Reg)
  | orn (rd rs1 rs2 : Reg)
  | rev8 (rd rs1 : Reg)
  | rol (rd rs1 rs2 : Reg)
  | ror (rd rs1 rs2 : Reg)
  | rori (rd rs1 : Reg) (shamt : BitVec 5)
  | sextB (rd rs1 : Reg)
  | sextH (rd rs1 : Reg)
  | xnor (rd rs1 rs2 : Reg)
  | zextH (rd rs1 : Reg)
  -- Zbc (R330 to R332)
  | clmul (rd rs1 rs2 : Reg)
  | clmulh (rd rs1 rs2 : Reg)
  | clmulr (rd rs1 rs2 : Reg)
  -- Zbs (R333 to R340)
  | bclr (rd rs1 rs2 : Reg)
  | bclri (rd rs1 : Reg) (shamt : BitVec 5)
  | bext (rd rs1 rs2 : Reg)
  | bexti (rd rs1 : Reg) (shamt : BitVec 5)
  | binv (rd rs1 rs2 : Reg)
  | binvi (rd rs1 : Reg) (shamt : BitVec 5)
  | bset (rd rs1 rs2 : Reg)
  | bseti (rd rs1 : Reg) (shamt : BitVec 5)
  -- the four of file 49 (R350 to R353); the ignored fields of `fence` and `fence.i` are kept
  | fence (fm pred succ : BitVec 4) (rs1 rd : Reg)
  | fenceI (imm : BitVec 12) (rs1 rd : Reg)
  | mret
  | wfi
  -- C, quadrant 0 (R243 to R245); a register `r'` is one of x8 to x15
  | cAddi4spn (rd' : Reg) (nzuimm : BitVec 10)
  | cLw (rd' : Reg) (uimm : BitVec 7) (rs1' : Reg)
  | cSw (rs2' : Reg) (uimm : BitVec 7) (rs1' : Reg)
  -- C, quadrant 1 (R246 to R261); the unmatched immediate of `c.nop` is kept
  | cNop (imm : BitVec 6)
  | cAddi (rd : Reg) (imm : BitVec 6)
  | cJal (offset : BitVec 12)
  | cLi (rd : Reg) (imm : BitVec 6)
  | cAddi16sp (nzimm : BitVec 10)
  | cLui (rd : Reg) (nzimm : BitVec 6)
  | cSrli (rd' : Reg) (shamt : BitVec 5)
  | cSrai (rd' : Reg) (shamt : BitVec 5)
  | cAndi (rd' : Reg) (imm : BitVec 6)
  | cSub (rd' rs2' : Reg)
  | cXor (rd' rs2' : Reg)
  | cOr (rd' rs2' : Reg)
  | cAnd (rd' rs2' : Reg)
  | cJ (offset : BitVec 12)
  | cBeqz (rs1' : Reg) (offset : BitVec 9)
  | cBnez (rs1' : Reg) (offset : BitVec 9)
  -- C, quadrant 2 (R262 to R269)
  | cSlli (rd : Reg) (shamt : BitVec 5)
  | cLwsp (rd : Reg) (uimm : BitVec 8)
  | cJr (rs1 : Reg)
  | cMv (rd rs2 : Reg)
  | cEbreak
  | cJalr (rs1 : Reg)
  | cAdd (rd rs2 : Reg)
  | cSwsp (rs2 : Reg) (uimm : BitVec 8)
  deriving DecidableEq, Repr

end Sys2Proof
end

