-- ==== Sys2Proof/Machine/Flags.lean ====
section
/-! DEFINITION. The machine has no flags (R28 in 10_state.md): a comparison writes 0 or 1 to a general register or
decides a branch. These are the comparisons. -/

namespace Sys2Proof.Machine

/-- `a <s b` (R12). -/
def lessSigned (a b : Word) : Bool := decide (a.toInt < b.toInt)

/-- `a <u b` (R12). -/
def lessUnsigned (a b : Word) : Bool := decide (a.toNat < b.toNat)

/-- A comparison's result as a register value, 1 or 0 (R123, R124). -/
def boolWord (b : Bool) : Word := if b then 1 else 0

end Sys2Proof.Machine
end

