-- ==== Sys2Proof/Machine/Operands.lean ====
section
/-! DEFINITION. Every operand form the spec gives an instruction, as the 32-bit value the instruction uses (R12, R83 to
R91 in 30_encoding.md, R170, R179 in 42_rv32i_load_store.md, the expansions of 45_c_extension.md). -/

namespace Sys2Proof.Machine

/-- `sext_N` (R12): the immediates of R83, R85, R86, R88 and the signed ones of the 16-bit forms. -/
def sext {n : Nat} (v : BitVec n) : Word := v.signExtend 32

/-- `zext_N` (R12): the `uimm` of R89 and the unsigned displacements of the 16-bit forms. -/
def zext {n : Nat} (v : BitVec n) : Word := v.setWidth 32

/-- `{imm[19:0], 0x000}` (R87, R140). -/
def upperImm (imm : BitVec 20) : Word := imm ++ 0#12

/-- The 20-bit immediate `c.lui` gives `lui`: `sext_6(nzimm)[19:0]` (R251). -/
def cLuiImm (nzimm : BitVec 6) : BitVec 20 := nzimm.signExtend 20

/-- A shift amount or bit index taken from a register: its low 5 bits (R128, R142(d), R342). -/
def lowFive (v : Word) : Nat := (v.extractLsb 4 0).toNat

/-- The address of a load, a store or a jump through a register: base plus displacement, modulo 2^32 (R170, R151). -/
def effectiveAddress (base displacement : Word) : Word := base + displacement

/-- `jalr` clears bit 0 of its target (R151). -/
def clearBit0 (v : Word) : Word := v &&& 0xFFFFFFFE

/-- The low byte of a loaded pattern, sign-extended (R174). -/
def sextByte (v : Word) : Word := (v.extractLsb 7 0).signExtend 32

/-- The low halfword of a loaded pattern, sign-extended (R172). -/
def sextHalf (v : Word) : Word := (v.extractLsb 15 0).signExtend 32

/-- The low byte of a loaded pattern, zero-extended (R175). -/
def zextByte (v : Word) : Word := (v.extractLsb 7 0).setWidth 32

/-- The low halfword of a loaded pattern, zero-extended (R173). -/
def zextHalf (v : Word) : Word := (v.extractLsb 15 0).setWidth 32

end Sys2Proof.Machine
end

