-- ==== Sys2Proof/Machine/Alu.lean ====
section
/-! DEFINITION. What the computing instructions compute, as functions on 32-bit patterns (40, 43, 44, 47 and 48 of
spec/). No instruction here traps or sets a flag (R142). -/

namespace Sys2Proof.Machine

/-! ## RV32I (R121 to R139) -/

/-- R123, R132. -/
def setLessSigned (a b : Word) : Word := boolWord (lessSigned a b)

/-- R124, R133. -/
def setLessUnsigned (a b : Word) : Word := boolWord (lessUnsigned a b)

/-- `a << n` (R128, R137). -/
def shiftLeft (a : Word) (n : Nat) : Word := a <<< n

/-- `a >>u n` (R129, R138). -/
def shiftRightLogical (a : Word) (n : Nat) : Word := a >>> n

/-- `a >>s n` (R130, R139). -/
def shiftRightArith (a : Word) (n : Nat) : Word := a.sshiftRight n

/-! ## M (R190 to R198) -/

/-- Bits 63:32 of a product, taken as a 64-bit two's-complement number (R191 to R193). -/
def upperProduct (p : Int) : Word := (BitVec.ofInt 64 p).extractLsb 63 32

/-- R190. -/
def mulLow (a b : Word) : Word := BitVec.ofInt 32 (a.toInt * b.toInt)

/-- R191. -/
def mulHighSigned (a b : Word) : Word := upperProduct (a.toInt * b.toInt)

/-- R192: the first operand signed, the second unsigned. -/
def mulHighMixed (a b : Word) : Word := upperProduct (a.toInt * (b.toNat : Int))

/-- R193. -/
def mulHighUnsigned (a b : Word) : Word := upperProduct ((a.toNat : Int) * (b.toNat : Int))

/-- R194. -/
def divSigned (a b : Word) : Word :=
  if b.toInt = 0 then BitVec.ofInt 32 (-1)
  else if a.toInt = -2 ^ 31 ∧ b.toInt = -1 then BitVec.ofInt 32 (-2 ^ 31)
  else BitVec.ofInt 32 (a.toInt.tdiv b.toInt)

/-- R195. -/
def divUnsigned (a b : Word) : Word :=
  if b.toNat = 0 then 0xFFFFFFFF else BitVec.ofNat 32 (a.toNat / b.toNat)

/-- R196. -/
def remSigned (a b : Word) : Word :=
  if b.toInt = 0 then a
  else if a.toInt = -2 ^ 31 ∧ b.toInt = -1 then 0
  else BitVec.ofInt 32 (a.toInt - b.toInt * a.toInt.tdiv b.toInt)

/-- R197. -/
def remUnsigned (a b : Word) : Word :=
  if b.toNat = 0 then a else BitVec.ofNat 32 (a.toNat % b.toNat)

/-! ## Minimum and maximum (R308 to R311, R218 to R221) -/

/-- R308, R219. -/
def maxSigned (a b : Word) : Word := if lessSigned a b then b else a

/-- R309, R221. -/
def maxUnsigned (a b : Word) : Word := if lessUnsigned a b then b else a

/-- R310, R218. -/
def minSigned (a b : Word) : Word := if lessSigned a b then a else b

/-- R311, R220. -/
def minUnsigned (a b : Word) : Word := if lessUnsigned a b then a else b

/-! ## Zba and Zbb (R300 to R321) -/

/-- R301 to R303: the first operand shifted left by `k`, plus the second. -/
def shiftAdd (k : Nat) (a b : Word) : Word := b + (a <<< k)

/-- R300: the number of 0 bits above the most significant 1 bit; 32 if there is none. -/
def clz32 (v : Word) : Nat := ((List.range 32).reverse.takeWhile fun i => !v.getLsbD i).length

/-- R300: the number of 0 bits below the least significant 1 bit; 32 if there is none. -/
def ctz32 (v : Word) : Nat := ((List.range 32).takeWhile fun i => !v.getLsbD i).length

/-- R300: the number of 1 bits. -/
def cpop32 (v : Word) : Nat := (List.range 32).countP fun i => v.getLsbD i

/-- R300. -/
def rol32 (v : Word) (n : Nat) : Word := if n = 0 then v else (v <<< n) ||| (v >>> (32 - n))

/-- R300. -/
def ror32 (v : Word) (n : Nat) : Word := if n = 0 then v else (v >>> n) ||| (v <<< (32 - n))

/-- R312: one byte of `orc.b`. -/
def orCombine (b : Byte) : Byte := if b = 0 then 0x00 else 0xFF

/-- R312. -/
def orcBytes (v : Word) : Word :=
  orCombine (v.extractLsb 31 24) ++ orCombine (v.extractLsb 23 16) ++ orCombine (v.extractLsb 15 8)
    ++ orCombine (v.extractLsb 7 0)

/-- R314. -/
def reverseBytes (v : Word) : Word :=
  v.extractLsb 7 0 ++ v.extractLsb 15 8 ++ v.extractLsb 23 16 ++ v.extractLsb 31 24

/-! ## Zbc and Zbs (R330 to R342) -/

/-- The carry-less product `P(a, b)`: the exclusive or, over the set bits `i` of `b`, of `a << i` (R330). -/
def carrylessProduct (a b : Word) : BitVec 64 :=
  (List.range 32).foldl (fun p i => if b.getLsbD i then p ^^^ (a.setWidth 64 <<< i) else p) 0

/-- R330. -/
def clmulLow (a b : Word) : Word := (carrylessProduct a b).extractLsb 31 0

/-- R331. -/
def clmulHigh (a b : Word) : Word := (carrylessProduct a b).extractLsb 63 32

/-- R332. -/
def clmulReversed (a b : Word) : Word := (carrylessProduct a b).extractLsb 62 31

/-- `1 << n` (R341). -/
def bitMask (n : Nat) : Word := 1#32 <<< n

/-- R333, R334. -/
def bitClear (a : Word) (n : Nat) : Word := a &&& ~~~bitMask n

/-- R335, R336. -/
def bitExtract (a : Word) (n : Nat) : Word := (a >>> n) &&& 1

/-- R337, R338. -/
def bitInvert (a : Word) (n : Nat) : Word := a ^^^ bitMask n

/-- R339, R340. -/
def bitSet (a : Word) (n : Nat) : Word := a ||| bitMask n

end Sys2Proof.Machine
end

