-- ==== Sys2Proof/Machine/Expansion.lean ====
section
/-! DEFINITION. The expansion of every 16-bit instruction (R240 to R269 in 45_c_extension.md): the 32-bit instruction it
is an alias of. The cost rules read an instruction through it (R412, R419 in 70_reset_and_hazards.md). -/

namespace Sys2Proof.Machine

open Sys2Proof

/-- The expansion of a 16-bit instruction; a 32-bit instruction is its own. -/
def expand : Instr → Instr
  | .cAddi4spn rd' u => .addi rd' 2 (u.setWidth 12)
  | .cLw rd' u rs1' => .lw rd' (u.setWidth 12) rs1'
  | .cSw rs2' u rs1' => .sw rs2' (u.setWidth 12) rs1'
  | .cNop _ => .addi 0 0 0
  | .cAddi rd imm => .addi rd rd (imm.signExtend 12)
  | .cJal o => .jal 1 (o.signExtend 21)
  | .cLi rd imm => .addi rd 0 (imm.signExtend 12)
  | .cAddi16sp z => .addi 2 2 (z.signExtend 12)
  | .cLui rd z => .lui rd (cLuiImm z)
  | .cSrli rd' sh => .srli rd' rd' sh
  | .cSrai rd' sh => .srai rd' rd' sh
  | .cAndi rd' imm => .andi rd' rd' (imm.signExtend 12)
  | .cSub rd' rs2' => .sub rd' rd' rs2'
  | .cXor rd' rs2' => .xor rd' rd' rs2'
  | .cOr rd' rs2' => .or rd' rd' rs2'
  | .cAnd rd' rs2' => .and rd' rd' rs2'
  | .cJ o => .jal 0 (o.signExtend 21)
  | .cBeqz rs1' o => .beq rs1' 0 (o.signExtend 13)
  | .cBnez rs1' o => .bne rs1' 0 (o.signExtend 13)
  | .cSlli rd sh => .slli rd rd sh
  | .cLwsp rd u => .lw rd (u.setWidth 12) 2
  | .cJr rs1 => .jalr 0 rs1 0
  | .cMv rd rs2 => .add rd 0 rs2
  | .cEbreak => .ebreak
  | .cJalr rs1 => .jalr 1 rs1 0
  | .cAdd rd rs2 => .add rd rd rs2
  | .cSwsp rs2 u => .sw rs2 (u.setWidth 12) 2
  | .add rd rs1 rs2 => .add rd rs1 rs2
  | .sub rd rs1 rs2 => .sub rd rs1 rs2
  | .slt rd rs1 rs2 => .slt rd rs1 rs2
  | .sltu rd rs1 rs2 => .sltu rd rs1 rs2
  | .and rd rs1 rs2 => .and rd rs1 rs2
  | .or rd rs1 rs2 => .or rd rs1 rs2
  | .xor rd rs1 rs2 => .xor rd rs1 rs2
  | .sll rd rs1 rs2 => .sll rd rs1 rs2
  | .srl rd rs1 rs2 => .srl rd rs1 rs2
  | .sra rd rs1 rs2 => .sra rd rs1 rs2
  | .addi rd rs1 imm => .addi rd rs1 imm
  | .slti rd rs1 imm => .slti rd rs1 imm
  | .sltiu rd rs1 imm => .sltiu rd rs1 imm
  | .andi rd rs1 imm => .andi rd rs1 imm
  | .ori rd rs1 imm => .ori rd rs1 imm
  | .xori rd rs1 imm => .xori rd rs1 imm
  | .slli rd rs1 shamt => .slli rd rs1 shamt
  | .srli rd rs1 shamt => .srli rd rs1 shamt
  | .srai rd rs1 shamt => .srai rd rs1 shamt
  | .lui rd imm => .lui rd imm
  | .auipc rd imm => .auipc rd imm
  | .jal rd offset => .jal rd offset
  | .jalr rd rs1 imm => .jalr rd rs1 imm
  | .beq rs1 rs2 offset => .beq rs1 rs2 offset
  | .bne rs1 rs2 offset => .bne rs1 rs2 offset
  | .blt rs1 rs2 offset => .blt rs1 rs2 offset
  | .bge rs1 rs2 offset => .bge rs1 rs2 offset
  | .bltu rs1 rs2 offset => .bltu rs1 rs2 offset
  | .bgeu rs1 rs2 offset => .bgeu rs1 rs2 offset
  | .lw rd imm rs1 => .lw rd imm rs1
  | .lh rd imm rs1 => .lh rd imm rs1
  | .lhu rd imm rs1 => .lhu rd imm rs1
  | .lb rd imm rs1 => .lb rd imm rs1
  | .lbu rd imm rs1 => .lbu rd imm rs1
  | .sw rs2 imm rs1 => .sw rs2 imm rs1
  | .sh rs2 imm rs1 => .sh rs2 imm rs1
  | .sb rs2 imm rs1 => .sb rs2 imm rs1
  | .mul rd rs1 rs2 => .mul rd rs1 rs2
  | .mulh rd rs1 rs2 => .mulh rd rs1 rs2
  | .mulhsu rd rs1 rs2 => .mulhsu rd rs1 rs2
  | .mulhu rd rs1 rs2 => .mulhu rd rs1 rs2
  | .div rd rs1 rs2 => .div rd rs1 rs2
  | .divu rd rs1 rs2 => .divu rd rs1 rs2
  | .rem rd rs1 rs2 => .rem rd rs1 rs2
  | .remu rd rs1 rs2 => .remu rd rs1 rs2
  | .lrW rd rs1 aq rl => .lrW rd rs1 aq rl
  | .scW rd rs2 rs1 aq rl => .scW rd rs2 rs1 aq rl
  | .amoswapW rd rs2 rs1 aq rl => .amoswapW rd rs2 rs1 aq rl
  | .amoaddW rd rs2 rs1 aq rl => .amoaddW rd rs2 rs1 aq rl
  | .amoxorW rd rs2 rs1 aq rl => .amoxorW rd rs2 rs1 aq rl
  | .amoandW rd rs2 rs1 aq rl => .amoandW rd rs2 rs1 aq rl
  | .amoorW rd rs2 rs1 aq rl => .amoorW rd rs2 rs1 aq rl
  | .amominW rd rs2 rs1 aq rl => .amominW rd rs2 rs1 aq rl
  | .amomaxW rd rs2 rs1 aq rl => .amomaxW rd rs2 rs1 aq rl
  | .amominuW rd rs2 rs1 aq rl => .amominuW rd rs2 rs1 aq rl
  | .amomaxuW rd rs2 rs1 aq rl => .amomaxuW rd rs2 rs1 aq rl
  | .csrrw rd csr rs1 => .csrrw rd csr rs1
  | .csrrc rd csr rs1 => .csrrc rd csr rs1
  | .csrrs rd csr rs1 => .csrrs rd csr rs1
  | .csrrwi rd csr uimm => .csrrwi rd csr uimm
  | .csrrci rd csr uimm => .csrrci rd csr uimm
  | .csrrsi rd csr uimm => .csrrsi rd csr uimm
  | .ecall => .ecall
  | .ebreak => .ebreak
  | .sh1add rd rs1 rs2 => .sh1add rd rs1 rs2
  | .sh2add rd rs1 rs2 => .sh2add rd rs1 rs2
  | .sh3add rd rs1 rs2 => .sh3add rd rs1 rs2
  | .andn rd rs1 rs2 => .andn rd rs1 rs2
  | .clz rd rs1 => .clz rd rs1
  | .cpop rd rs1 => .cpop rd rs1
  | .ctz rd rs1 => .ctz rd rs1
  | .max rd rs1 rs2 => .max rd rs1 rs2
  | .maxu rd rs1 rs2 => .maxu rd rs1 rs2
  | .min rd rs1 rs2 => .min rd rs1 rs2
  | .minu rd rs1 rs2 => .minu rd rs1 rs2
  | .orcB rd rs1 => .orcB rd rs1
  | .orn rd rs1 rs2 => .orn rd rs1 rs2
  | .rev8 rd rs1 => .rev8 rd rs1
  | .rol rd rs1 rs2 => .rol rd rs1 rs2
  | .ror rd rs1 rs2 => .ror rd rs1 rs2
  | .rori rd rs1 shamt => .rori rd rs1 shamt
  | .sextB rd rs1 => .sextB rd rs1
  | .sextH rd rs1 => .sextH rd rs1
  | .xnor rd rs1 rs2 => .xnor rd rs1 rs2
  | .zextH rd rs1 => .zextH rd rs1
  | .clmul rd rs1 rs2 => .clmul rd rs1 rs2
  | .clmulh rd rs1 rs2 => .clmulh rd rs1 rs2
  | .clmulr rd rs1 rs2 => .clmulr rd rs1 rs2
  | .bclr rd rs1 rs2 => .bclr rd rs1 rs2
  | .bclri rd rs1 shamt => .bclri rd rs1 shamt
  | .bext rd rs1 rs2 => .bext rd rs1 rs2
  | .bexti rd rs1 shamt => .bexti rd rs1 shamt
  | .binv rd rs1 rs2 => .binv rd rs1 rs2
  | .binvi rd rs1 shamt => .binvi rd rs1 shamt
  | .bset rd rs1 rs2 => .bset rd rs1 rs2
  | .bseti rd rs1 shamt => .bseti rd rs1 shamt
  | .fence fm pred succ rs1 rd => .fence fm pred succ rs1 rd
  | .fenceI imm rs1 rd => .fenceI imm rs1 rd
  | .mret => .mret
  | .wfi => .wfi

end Sys2Proof.Machine
end

