-- ==== Sys2Proof/WellFormed.lean ====
section
/-! DEFINITION. Which terms of Instr are instructions: the operand ranges that the types of Syntax.lean do not already
give (R86, R88 in 30_encoding.md; the Operands and Encoding lines of R243 to R269 in 45_c_extension.md). -/

namespace Sys2Proof

/-- One of the eight registers a three-bit field names (R241). -/
def isPrime (r : Reg) : Bool := decide (8 ≤ r.val ∧ r.val ≤ 15)

/-- A byte offset or displacement that is a multiple of `2 ^ k`: its `k` low bits are 0. -/
def aligned {n : Nat} (k : Nat) (v : BitVec n) : Bool := v.toNat % 2 ^ k == 0

/-- The operand checks of each instruction. Every instruction not named with a check has none: all values of its
operands' types are encodable. -/
def Instr.wellFormed : Instr → Bool
  -- R88, R86: offsets are even
  | .jal _ offset => aligned 1 offset
  | .beq _ _ offset | .bne _ _ offset | .blt _ _ offset | .bge _ _ offset | .bltu _ _ offset | .bgeu _ _ offset =>
    aligned 1 offset
  -- R243 to R245
  | .cAddi4spn rd' nzuimm => isPrime rd' && aligned 2 nzuimm && nzuimm != 0
  | .cLw rd' uimm rs1' => isPrime rd' && isPrime rs1' && aligned 2 uimm
  | .cSw rs2' uimm rs1' => isPrime rs2' && isPrime rs1' && aligned 2 uimm
  -- R247 to R261
  | .cAddi rd _ => rd != 0
  | .cJal offset | .cJ offset => aligned 1 offset
  | .cAddi16sp nzimm => aligned 4 nzimm && nzimm != 0
  | .cLui rd nzimm => rd != 2 && nzimm != 0
  | .cSrli rd' _ | .cSrai rd' _ | .cAndi rd' _ => isPrime rd'
  | .cSub rd' rs2' | .cXor rd' rs2' | .cOr rd' rs2' | .cAnd rd' rs2' => isPrime rd' && isPrime rs2'
  | .cBeqz rs1' offset | .cBnez rs1' offset => isPrime rs1' && aligned 1 offset
  -- R263 to R269
  | .cLwsp rd uimm => rd != 0 && aligned 2 uimm
  | .cJr rs1 | .cJalr rs1 => rs1 != 0
  | .cMv _ rs2 | .cAdd _ rs2 => rs2 != 0
  | .cSwsp _ uimm => aligned 2 uimm
  -- every operand value is encodable
  | .add _ _ _ | .sub _ _ _ | .slt _ _ _ | .sltu _ _ _ | .and _ _ _ | .or _ _ _ | .xor _ _ _ | .sll _ _ _
  | .srl _ _ _ | .sra _ _ _ | .addi _ _ _ | .slti _ _ _ | .sltiu _ _ _ | .andi _ _ _ | .ori _ _ _ | .xori _ _ _
  | .slli _ _ _ | .srli _ _ _ | .srai _ _ _ | .lui _ _ | .auipc _ _ | .jalr _ _ _ | .lw _ _ _ | .lh _ _ _
  | .lhu _ _ _ | .lb _ _ _ | .lbu _ _ _ | .sw _ _ _ | .sh _ _ _ | .sb _ _ _ | .mul _ _ _ | .mulh _ _ _
  | .mulhsu _ _ _ | .mulhu _ _ _ | .div _ _ _ | .divu _ _ _ | .rem _ _ _ | .remu _ _ _ | .lrW _ _ _ _
  | .scW _ _ _ _ _ | .amoswapW _ _ _ _ _ | .amoaddW _ _ _ _ _ | .amoxorW _ _ _ _ _ | .amoandW _ _ _ _ _
  | .amoorW _ _ _ _ _ | .amominW _ _ _ _ _ | .amomaxW _ _ _ _ _ | .amominuW _ _ _ _ _ | .amomaxuW _ _ _ _ _
  | .csrrw _ _ _ | .csrrc _ _ _ | .csrrs _ _ _ | .csrrwi _ _ _ | .csrrci _ _ _ | .csrrsi _ _ _ | .ecall | .ebreak
  | .sh1add _ _ _ | .sh2add _ _ _ | .sh3add _ _ _ | .andn _ _ _ | .clz _ _ | .cpop _ _ | .ctz _ _ | .max _ _ _
  | .maxu _ _ _ | .min _ _ _ | .minu _ _ _ | .orcB _ _ | .orn _ _ _ | .rev8 _ _ | .rol _ _ _ | .ror _ _ _
  | .rori _ _ _ | .sextB _ _ | .sextH _ _ | .xnor _ _ _ | .zextH _ _ | .clmul _ _ _ | .clmulh _ _ _ | .clmulr _ _ _
  | .bclr _ _ _ | .bclri _ _ _ | .bext _ _ _ | .bexti _ _ _ | .binv _ _ _ | .binvi _ _ _ | .bset _ _ _ | .bseti _ _ _
  | .fence _ _ _ _ _ | .fenceI _ _ _ | .mret | .wfi | .cNop _ | .cLi _ _ | .cSlli _ _ | .cEbreak => true

end Sys2Proof
end

