-- ==== Sys2Proof/Decode.lean ====
section
/-! DEFINITION. The decoder, total on any bytes and rejecting by name, and after it the encoder, both written from
30_encoding.md (R80 to R98, R105), 45_c_extension.md (R241 to R270) and the match and mask of each row of
spec/opcode_table.json. -/

namespace Sys2Proof

/-! ## Fields -/

/-- A five-bit register field (R105). -/
def regOf (field : BitVec 5) : Reg := field.toFin

/-- A three-bit register field: register number = 8 + field (R241). -/
def primeOf (field : BitVec 3) : Reg := ⟨8 + field.toNat, by omega⟩

def fieldRd (w : Word) : Reg := regOf (w.extractLsb 11 7)
def fieldRs1 (w : Word) : Reg := regOf (w.extractLsb 19 15)
def fieldRs2 (w : Word) : Reg := regOf (w.extractLsb 24 20)

/-- R83: `w[31:20]`. -/
def fieldImmI (w : Word) : BitVec 12 := w.extractLsb 31 20

/-- R85: `w[31:25], w[11:7]`. -/
def fieldImmS (w : Word) : BitVec 12 := w.extractLsb 31 25 ++ w.extractLsb 11 7

/-- R86: `w[31], w[7], w[30:25], w[11:8], 0`. -/
def fieldImmB (w : Word) : BitVec 13 :=
  w.extractLsb 31 31 ++ w.extractLsb 7 7 ++ w.extractLsb 30 25 ++ w.extractLsb 11 8 ++ 0#1

/-- R87: `w[31:12]`. -/
def fieldImmU (w : Word) : BitVec 20 := w.extractLsb 31 12

/-- R88: `w[31], w[19:12], w[20], w[30:21], 0`. -/
def fieldImmJ (w : Word) : BitVec 21 :=
  w.extractLsb 31 31 ++ w.extractLsb 19 12 ++ w.extractLsb 20 20 ++ w.extractLsb 30 21 ++ 0#1

/-! ## The 32-bit rows -/

/-- One row of the opcode table of width 32: a word `w` is this instruction when `w & mask = pattern` (R94). -/
structure Row32 where
  pattern : Word
  mask : Word
  build : Word → Instr

def Row32.hits (r : Row32) (w : Word) : Bool := w &&& r.mask == r.pattern

/-- R-type (R82). -/
def buildR (k : Reg → Reg → Reg → Instr) (w : Word) : Instr := k (fieldRd w) (fieldRs1 w) (fieldRs2 w)

/-- Unary form (R91). -/
def buildUnary (k : Reg → Reg → Instr) (w : Word) : Instr := k (fieldRd w) (fieldRs1 w)

/-- I-type, arithmetic and `jalr` (R83). -/
def buildI (k : Reg → Reg → BitVec 12 → Instr) (w : Word) : Instr := k (fieldRd w) (fieldRs1 w) (fieldImmI w)

/-- I-type, shift form (R84). -/
def buildShift (k : Reg → Reg → BitVec 5 → Instr) (w : Word) : Instr :=
  k (fieldRd w) (fieldRs1 w) (w.extractLsb 24 20)

/-- I-type, loads (R83). -/
def buildLoad (k : Reg → BitVec 12 → Reg → Instr) (w : Word) : Instr := k (fieldRd w) (fieldImmI w) (fieldRs1 w)

/-- S-type (R85). -/
def buildS (k : Reg → BitVec 12 → Reg → Instr) (w : Word) : Instr := k (fieldRs2 w) (fieldImmS w) (fieldRs1 w)

/-- B-type (R86). -/
def buildB (k : Reg → Reg → BitVec 13 → Instr) (w : Word) : Instr := k (fieldRs1 w) (fieldRs2 w) (fieldImmB w)

/-- U-type (R87). -/
def buildU (k : Reg → BitVec 20 → Instr) (w : Word) : Instr := k (fieldRd w) (fieldImmU w)

/-- J-type (R88). -/
def buildJ (k : Reg → BitVec 21 → Instr) (w : Word) : Instr := k (fieldRd w) (fieldImmJ w)

/-- CSR form with a register (R89). -/
def buildCsr (k : Reg → BitVec 12 → Reg → Instr) (w : Word) : Instr := k (fieldRd w) (fieldImmI w) (fieldRs1 w)

/-- CSR form with an immediate (R89). -/
def buildCsrImm (k : Reg → BitVec 12 → BitVec 5 → Instr) (w : Word) : Instr :=
  k (fieldRd w) (fieldImmI w) (w.extractLsb 19 15)

/-- Atomic form (R90). -/
def buildAtomic (k : Reg → Reg → Reg → Bool → Bool → Instr) (w : Word) : Instr :=
  k (fieldRd w) (fieldRs2 w) (fieldRs1 w) (w.getLsbD 26) (w.getLsbD 25)

/-- Atomic form of `lr.w`, which has no `rs2` operand (R90). -/
def buildLr (w : Word) : Instr := .lrW (fieldRd w) (fieldRs1 w) (w.getLsbD 26) (w.getLsbD 25)

/-- R350. -/
def buildFence (w : Word) : Instr :=
  .fence (w.extractLsb 31 28) (w.extractLsb 27 24) (w.extractLsb 23 20) (fieldRs1 w) (fieldRd w)

/-- R351. -/
def buildFenceI (w : Word) : Instr := .fenceI (fieldImmI w) (fieldRs1 w) (fieldRd w)

/-- RV32I, integer computation (R121 to R141). DEDUCED: R322's formula for `zext.b` has funct3 `000`, so its words are
`addi`'s; the word of `zext.b` is taken to be that of `andi rd, rs1, 255`, as R322 says beside it. (log 34) -/
def rowsInteger : List Row32 := [
  ⟨0x00000033, 0xFE00707F, buildR .add⟩,
  ⟨0x40000033, 0xFE00707F, buildR .sub⟩,
  ⟨0x00002033, 0xFE00707F, buildR .slt⟩,
  ⟨0x00003033, 0xFE00707F, buildR .sltu⟩,
  ⟨0x00007033, 0xFE00707F, buildR .and⟩,
  ⟨0x00006033, 0xFE00707F, buildR .or⟩,
  ⟨0x00004033, 0xFE00707F, buildR .xor⟩,
  ⟨0x00001033, 0xFE00707F, buildR .sll⟩,
  ⟨0x00005033, 0xFE00707F, buildR .srl⟩,
  ⟨0x40005033, 0xFE00707F, buildR .sra⟩,
  ⟨0x00000013, 0x0000707F, buildI .addi⟩,
  ⟨0x00002013, 0x0000707F, buildI .slti⟩,
  ⟨0x00003013, 0x0000707F, buildI .sltiu⟩,
  ⟨0x00007013, 0x0000707F, buildI .andi⟩,
  ⟨0x00006013, 0x0000707F, buildI .ori⟩,
  ⟨0x00004013, 0x0000707F, buildI .xori⟩,
  ⟨0x00001013, 0xFE00707F, buildShift .slli⟩,
  ⟨0x00005013, 0xFE00707F, buildShift .srli⟩,
  ⟨0x40005013, 0xFE00707F, buildShift .srai⟩,
  ⟨0x00000037, 0x0000007F, buildU .lui⟩,
  ⟨0x00000017, 0x0000007F, buildU .auipc⟩ ]

/-- RV32I, control transfer (R150 to R157). -/
def rowsControl : List Row32 := [
  ⟨0x0000006F, 0x0000007F, buildJ .jal⟩,
  ⟨0x00000067, 0x0000707F, buildI .jalr⟩,
  ⟨0x00000063, 0x0000707F, buildB .beq⟩,
  ⟨0x00001063, 0x0000707F, buildB .bne⟩,
  ⟨0x00004063, 0x0000707F, buildB .blt⟩,
  ⟨0x00005063, 0x0000707F, buildB .bge⟩,
  ⟨0x00006063, 0x0000707F, buildB .bltu⟩,
  ⟨0x00007063, 0x0000707F, buildB .bgeu⟩ ]

/-- RV32I, load and store (R171 to R178). -/
def rowsMemory : List Row32 := [
  ⟨0x00002003, 0x0000707F, buildLoad .lw⟩,
  ⟨0x00001003, 0x0000707F, buildLoad .lh⟩,
  ⟨0x00005003, 0x0000707F, buildLoad .lhu⟩,
  ⟨0x00000003, 0x0000707F, buildLoad .lb⟩,
  ⟨0x00004003, 0x0000707F, buildLoad .lbu⟩,
  ⟨0x00002023, 0x0000707F, buildS .sw⟩,
  ⟨0x00001023, 0x0000707F, buildS .sh⟩,
  ⟨0x00000023, 0x0000707F, buildS .sb⟩ ]

/-- M extension (R190 to R197). -/
def rowsM : List Row32 := [
  ⟨0x02000033, 0xFE00707F, buildR .mul⟩,
  ⟨0x02001033, 0xFE00707F, buildR .mulh⟩,
  ⟨0x02002033, 0xFE00707F, buildR .mulhsu⟩,
  ⟨0x02003033, 0xFE00707F, buildR .mulhu⟩,
  ⟨0x02004033, 0xFE00707F, buildR .div⟩,
  ⟨0x02005033, 0xFE00707F, buildR .divu⟩,
  ⟨0x02006033, 0xFE00707F, buildR .rem⟩,
  ⟨0x02007033, 0xFE00707F, buildR .remu⟩ ]

/-- A extension (R211 to R221). -/
def rowsA : List Row32 := [
  ⟨0x1000202F, 0xF9F0707F, buildLr⟩,
  ⟨0x1800202F, 0xF800707F, buildAtomic .scW⟩,
  ⟨0x0800202F, 0xF800707F, buildAtomic .amoswapW⟩,
  ⟨0x0000202F, 0xF800707F, buildAtomic .amoaddW⟩,
  ⟨0x2000202F, 0xF800707F, buildAtomic .amoxorW⟩,
  ⟨0x6000202F, 0xF800707F, buildAtomic .amoandW⟩,
  ⟨0x4000202F, 0xF800707F, buildAtomic .amoorW⟩,
  ⟨0x8000202F, 0xF800707F, buildAtomic .amominW⟩,
  ⟨0xA000202F, 0xF800707F, buildAtomic .amomaxW⟩,
  ⟨0xC000202F, 0xF800707F, buildAtomic .amominuW⟩,
  ⟨0xE000202F, 0xF800707F, buildAtomic .amomaxuW⟩ ]

/-- Zicsr, trap request, and the four of file 49 (R281 to R288, R350 to R353). -/
def rowsSystem : List Row32 := [
  ⟨0x00001073, 0x0000707F, buildCsr .csrrw⟩,
  ⟨0x00003073, 0x0000707F, buildCsr .csrrc⟩,
  ⟨0x00002073, 0x0000707F, buildCsr .csrrs⟩,
  ⟨0x00005073, 0x0000707F, buildCsrImm .csrrwi⟩,
  ⟨0x00007073, 0x0000707F, buildCsrImm .csrrci⟩,
  ⟨0x00006073, 0x0000707F, buildCsrImm .csrrsi⟩,
  ⟨0x00000073, 0xFFFFFFFF, fun _ => .ecall⟩,
  ⟨0x00100073, 0xFFFFFFFF, fun _ => .ebreak⟩,
  ⟨0x0000000F, 0x0000707F, buildFence⟩,
  ⟨0x0000100F, 0x0000707F, buildFenceI⟩,
  ⟨0x30200073, 0xFFFFFFFF, fun _ => .mret⟩,
  ⟨0x10500073, 0xFFFFFFFF, fun _ => .wfi⟩ ]

/-- Zba and Zbb (R301 to R321). -/
def rowsZbaZbb : List Row32 := [
  ⟨0x20002033, 0xFE00707F, buildR .sh1add⟩,
  ⟨0x20004033, 0xFE00707F, buildR .sh2add⟩,
  ⟨0x20006033, 0xFE00707F, buildR .sh3add⟩,
  ⟨0x40007033, 0xFE00707F, buildR .andn⟩,
  ⟨0x60001013, 0xFFF0707F, buildUnary .clz⟩,
  ⟨0x60201013, 0xFFF0707F, buildUnary .cpop⟩,
  ⟨0x60101013, 0xFFF0707F, buildUnary .ctz⟩,
  ⟨0x0A006033, 0xFE00707F, buildR .max⟩,
  ⟨0x0A007033, 0xFE00707F, buildR .maxu⟩,
  ⟨0x0A004033, 0xFE00707F, buildR .min⟩,
  ⟨0x0A005033, 0xFE00707F, buildR .minu⟩,
  ⟨0x28705013, 0xFFF0707F, buildUnary .orcB⟩,
  ⟨0x40006033, 0xFE00707F, buildR .orn⟩,
  ⟨0x69805013, 0xFFF0707F, buildUnary .rev8⟩,
  ⟨0x60001033, 0xFE00707F, buildR .rol⟩,
  ⟨0x60005033, 0xFE00707F, buildR .ror⟩,
  ⟨0x60005013, 0xFE00707F, buildShift .rori⟩,
  ⟨0x60401013, 0xFFF0707F, buildUnary .sextB⟩,
  ⟨0x60501013, 0xFFF0707F, buildUnary .sextH⟩,
  ⟨0x40004033, 0xFE00707F, buildR .xnor⟩,
  ⟨0x08004033, 0xFFF0707F, buildUnary .zextH⟩ ]

/-- Zbc and Zbs (R330 to R340). -/
def rowsZbcZbs : List Row32 := [
  ⟨0x0A001033, 0xFE00707F, buildR .clmul⟩,
  ⟨0x0A003033, 0xFE00707F, buildR .clmulh⟩,
  ⟨0x0A002033, 0xFE00707F, buildR .clmulr⟩,
  ⟨0x48001033, 0xFE00707F, buildR .bclr⟩,
  ⟨0x48001013, 0xFE00707F, buildShift .bclri⟩,
  ⟨0x48005033, 0xFE00707F, buildR .bext⟩,
  ⟨0x48005013, 0xFE00707F, buildShift .bexti⟩,
  ⟨0x68001033, 0xFE00707F, buildR .binv⟩,
  ⟨0x68001013, 0xFE00707F, buildShift .binvi⟩,
  ⟨0x28001033, 0xFE00707F, buildR .bset⟩,
  ⟨0x28001013, 0xFE00707F, buildShift .bseti⟩ ]

/-- The 100 rows of width 32 (R94). -/
def rows32 : List Row32 :=
  rowsInteger ++ rowsControl ++ rowsMemory ++ rowsM ++ rowsA ++ rowsSystem ++ rowsZbaZbb ++ rowsZbcZbs

/-- The instruction a 32-bit word is, if it is one (R94). -/
def decode32 (w : Word) : Option Instr := (rows32.find? fun r => r.hits w).map fun r => r.build w

/-! ## The 16-bit rows -/

/-- One row of the opcode table of width 16: a parcel `h` is this instruction when `h & mask = pattern` and for each
constraint `(a, n)`, `(h & a) != n` (R94, R242). -/
structure Row16 where
  pattern : Half
  mask : Half
  constraints : List (Half × Half)
  build : Half → Instr

def Row16.hits (r : Row16) (h : Half) : Bool :=
  h &&& r.mask == r.pattern && r.constraints.all fun c => h &&& c.1 != c.2

/-- `h[11:7]`, a five-bit register field. -/
def halfReg (h : Half) : Reg := regOf (h.extractLsb 11 7)

/-- `h[6:2]`, a five-bit register field. -/
def halfRs2 (h : Half) : Reg := regOf (h.extractLsb 6 2)

/-- `h[9:7]`, a three-bit register field. -/
def halfHigh (h : Half) : Reg := primeOf (h.extractLsb 9 7)

/-- `h[4:2]`, a three-bit register field. -/
def halfLow (h : Half) : Reg := primeOf (h.extractLsb 4 2)

/-- `h[12], h[6:2]`: the CI immediate (R247, R249, R251, R254). -/
def halfImm6 (h : Half) : BitVec 6 := h.extractLsb 12 12 ++ h.extractLsb 6 2

/-- The CL and CS displacement of `c.lw` and `c.sw` (R244): bits 6, 5:3, 2 and two zeros. -/
def halfUimmWord (h : Half) : BitVec 7 := h.extractLsb 5 5 ++ h.extractLsb 12 10 ++ h.extractLsb 6 6 ++ 0#2

/-- The CJ offset (R248): bits 11, 10, 9:8, 7, 6, 5, 4, 3:1 and a zero. -/
def halfJump (h : Half) : BitVec 12 :=
  h.extractLsb 12 12 ++ h.extractLsb 8 8 ++ h.extractLsb 10 9 ++ h.extractLsb 6 6 ++ h.extractLsb 7 7
    ++ h.extractLsb 2 2 ++ h.extractLsb 11 11 ++ h.extractLsb 5 3 ++ 0#1

/-- The CB offset (R260): bits 8, 7:6, 5, 4:3, 2:1 and a zero. -/
def halfBranch (h : Half) : BitVec 9 :=
  h.extractLsb 12 12 ++ h.extractLsb 6 5 ++ h.extractLsb 2 2 ++ h.extractLsb 11 10 ++ h.extractLsb 4 3 ++ 0#1

/-- R243: bits 9:6, 5:4, 3, 2 and two zeros. -/
def buildCAddi4spn (h : Half) : Instr :=
  .cAddi4spn (halfLow h) (h.extractLsb 10 7 ++ h.extractLsb 12 11 ++ h.extractLsb 5 5 ++ h.extractLsb 6 6 ++ 0#2)
def buildCLw (h : Half) : Instr := .cLw (halfLow h) (halfUimmWord h) (halfHigh h)
def buildCSw (h : Half) : Instr := .cSw (halfLow h) (halfUimmWord h) (halfHigh h)
def buildCNop (h : Half) : Instr := .cNop (halfImm6 h)
def buildCAddi (h : Half) : Instr := .cAddi (halfReg h) (halfImm6 h)
def buildCJal (h : Half) : Instr := .cJal (halfJump h)
def buildCLi (h : Half) : Instr := .cLi (halfReg h) (halfImm6 h)
/-- R250: bits 9, 8:7, 6, 5, 4 and four zeros. -/
def buildCAddi16sp (h : Half) : Instr :=
  .cAddi16sp (h.extractLsb 12 12 ++ h.extractLsb 4 3 ++ h.extractLsb 5 5 ++ h.extractLsb 2 2 ++ h.extractLsb 6 6 ++ 0#4)
def buildCLui (h : Half) : Instr := .cLui (halfReg h) (halfImm6 h)
def buildCSrli (h : Half) : Instr := .cSrli (halfHigh h) (h.extractLsb 6 2)
def buildCSrai (h : Half) : Instr := .cSrai (halfHigh h) (h.extractLsb 6 2)
def buildCAndi (h : Half) : Instr := .cAndi (halfHigh h) (halfImm6 h)
def buildCSub (h : Half) : Instr := .cSub (halfHigh h) (halfLow h)
def buildCXor (h : Half) : Instr := .cXor (halfHigh h) (halfLow h)
def buildCOr (h : Half) : Instr := .cOr (halfHigh h) (halfLow h)
def buildCAnd (h : Half) : Instr := .cAnd (halfHigh h) (halfLow h)
def buildCJ (h : Half) : Instr := .cJ (halfJump h)
def buildCBeqz (h : Half) : Instr := .cBeqz (halfHigh h) (halfBranch h)
def buildCBnez (h : Half) : Instr := .cBnez (halfHigh h) (halfBranch h)
def buildCSlli (h : Half) : Instr := .cSlli (halfReg h) (h.extractLsb 6 2)
/-- R263: bits 7:6, 5, 4:2 and two zeros. -/
def buildCLwsp (h : Half) : Instr :=
  .cLwsp (halfReg h) (h.extractLsb 3 2 ++ h.extractLsb 12 12 ++ h.extractLsb 6 4 ++ 0#2)
def buildCJr (h : Half) : Instr := .cJr (halfReg h)
def buildCMv (h : Half) : Instr := .cMv (halfReg h) (halfRs2 h)
def buildCEbreak (_ : Half) : Instr := .cEbreak
def buildCJalr (h : Half) : Instr := .cJalr (halfReg h)
def buildCAdd (h : Half) : Instr := .cAdd (halfReg h) (halfRs2 h)
/-- R269: bits 7:6, 5:2 and two zeros. -/
def buildCSwsp (h : Half) : Instr := .cSwsp (halfRs2 h) (h.extractLsb 8 7 ++ h.extractLsb 12 9 ++ 0#2)

/-- Quadrant 0. -/
def rowsQuadrant0 : List Row16 := [
  ⟨0x0000, 0xE003, [(0x1FE0, 0x0000)], buildCAddi4spn⟩,
  ⟨0x4000, 0xE003, [], buildCLw⟩,
  ⟨0xC000, 0xE003, [], buildCSw⟩ ]

/-- Quadrant 1. -/
def rowsQuadrant1 : List Row16 := [
  ⟨0x0001, 0xEF83, [], buildCNop⟩,
  ⟨0x0001, 0xE003, [(0x0F80, 0x0000)], buildCAddi⟩,
  ⟨0x2001, 0xE003, [], buildCJal⟩,
  ⟨0x4001, 0xE003, [], buildCLi⟩,
  ⟨0x6101, 0xEF83, [(0x107C, 0x0000)], buildCAddi16sp⟩,
  ⟨0x6001, 0xE003, [(0x0F80, 0x0100), (0x107C, 0x0000)], buildCLui⟩,
  ⟨0x8001, 0xFC03, [], buildCSrli⟩,
  ⟨0x8401, 0xFC03, [], buildCSrai⟩,
  ⟨0x8801, 0xEC03, [], buildCAndi⟩,
  ⟨0x8C01, 0xFC63, [], buildCSub⟩,
  ⟨0x8C21, 0xFC63, [], buildCXor⟩,
  ⟨0x8C41, 0xFC63, [], buildCOr⟩,
  ⟨0x8C61, 0xFC63, [], buildCAnd⟩,
  ⟨0xA001, 0xE003, [], buildCJ⟩,
  ⟨0xC001, 0xE003, [], buildCBeqz⟩,
  ⟨0xE001, 0xE003, [], buildCBnez⟩ ]

/-- Quadrant 2. -/
def rowsQuadrant2 : List Row16 := [
  ⟨0x0002, 0xF003, [], buildCSlli⟩,
  ⟨0x4002, 0xE003, [(0x0F80, 0x0000)], buildCLwsp⟩,
  ⟨0x8002, 0xF07F, [(0x0F80, 0x0000)], buildCJr⟩,
  ⟨0x8002, 0xF003, [(0x007C, 0x0000)], buildCMv⟩,
  ⟨0x9002, 0xFFFF, [], buildCEbreak⟩,
  ⟨0x9002, 0xF07F, [(0x0F80, 0x0000)], buildCJalr⟩,
  ⟨0x9002, 0xF003, [(0x007C, 0x0000)], buildCAdd⟩,
  ⟨0xC002, 0xE003, [], buildCSwsp⟩ ]

/-- The 27 rows of width 16 (R94). -/
def rows16 : List Row16 := rowsQuadrant0 ++ rowsQuadrant1 ++ rowsQuadrant2

/-- The instruction a 16-bit parcel is, if it is one (R242). -/
def decode16 (h : Half) : Option Instr := (rows16.find? fun r => r.hits h).map fun r => r.build h

/-! ## Bytes to an instruction -/

/-- Why bytes are no instruction. -/
inductive DecodeError where
  /-- Fewer bytes than the instruction's first parcel, or its length bits, call for. -/
  | truncated
  /-- A parcel that matches no row of width 16 (R95, R270). -/
  | illegalParcel (h : Half)
  /-- A word that matches no row of width 32 (R81, R95, R96, R98, R354). -/
  | illegalWord (w : Word)
  deriving DecidableEq, Repr

/-- The bits of the rejected encoding, for the exception it raises (R360, the last column of code 2). -/
def DecodeError.bits : DecodeError → Word
  | .truncated => 0
  | .illegalParcel h => h.setWidth 32
  | .illegalWord w => w

/-- A parcel from its two bytes, low byte first (R52). -/
def parcelOf (b0 b1 : Byte) : Half := b1 ++ b0

/-- A 32-bit instruction from its two parcels, low parcel first (R52, R81). -/
def wordOf (low high : Half) : Word := high ++ low

/-- Bits 1:0 of a first parcel say the instruction's length: `0b11` is 32 bits, anything else 16 (R81). -/
def isLong (h : Half) : Bool := h.extractLsb 1 0 == 3#2

/-- The first instruction of a list of bytes in address order, with the bytes after it (R81, R94, R242). -/
def decode : List Byte → Except DecodeError (Instr × List Byte)
  | b0 :: b1 :: rest =>
    let low := parcelOf b0 b1
    if isLong low then
      match rest with
      | b2 :: b3 :: rest' =>
        let w := wordOf low (parcelOf b2 b3)
        match decode32 w with
        | some i => .ok (i, rest')
        | none => .error (.illegalWord w)
      | _ => .error .truncated
    else
      match decode16 low with
      | some i => .ok (i, rest)
      | none => .error (.illegalParcel low)
  | _ => .error .truncated

/-- `n` bytes of a number, least significant first (R51, R52). -/
def bytesOf : Nat → Nat → List Byte
  | 0, _ => []
  | n + 1, v => BitVec.ofNat 8 v :: bytesOf n (v / 256)

/-- A table word as the hardware stores it: its bits above `nbits` are zero, and there are four bytes of it, as many as
the longest instruction has (R52, R80). -/
def tableBytes (nbits w : Nat) : List Byte := bytesOf 4 (w % 2 ^ nbits)

/-- The instruction the decoder reads from a table word (bit 0 the least significant of the first parcel). -/
def decodeTableWord (nbits w : Nat) : Option Instr :=
  match decode (tableBytes nbits w) with
  | .ok (i, _) => some i
  | .error _ => none

/-! ## The encoder -/

/-- An encoded instruction: one parcel or one word. -/
inductive Encoded where
  | half (h : Half)
  | word (w : Word)
  deriving DecidableEq, Repr

/-- A field's bits at bit position `lo` of an encoding. -/
def place {k : Nat} (n : Nat) (field : BitVec k) (lo : Nat) : BitVec n := field.setWidth n <<< lo

/-- A register's number in a five-bit field. -/
def regField (r : Reg) : BitVec 5 := BitVec.ofNat 5 r.val

/-- A register's number less 8 in a three-bit field (R241). -/
def primeField (r : Reg) : BitVec 3 := BitVec.ofNat 3 (r.val - 8)

def putRd (r : Reg) : Word := place 32 (regField r) 7
def putRs1 (r : Reg) : Word := place 32 (regField r) 15
def putRs2 (r : Reg) : Word := place 32 (regField r) 20

/-- R-type (R82): `m` holds funct7, funct3 and opcode. -/
def encR (m : Word) (rd rs1 rs2 : Reg) : Encoded := .word (m ||| putRd rd ||| putRs1 rs1 ||| putRs2 rs2)
/-- Unary form (R91). -/
def encUnary (m : Word) (rd rs1 : Reg) : Encoded := .word (m ||| putRd rd ||| putRs1 rs1)
/-- I-type (R83), and the CSR form with a register (R89). -/
def encI (m : Word) (rd rs1 : Reg) (imm : BitVec 12) : Encoded :=
  .word (m ||| putRd rd ||| putRs1 rs1 ||| place 32 imm 20)
/-- I-type, shift form (R84). -/
def encShift (m : Word) (rd rs1 : Reg) (shamt : BitVec 5) : Encoded :=
  .word (m ||| putRd rd ||| putRs1 rs1 ||| place 32 shamt 20)
/-- S-type (R85). -/
def encS (m : Word) (rs2 : Reg) (imm : BitVec 12) (rs1 : Reg) : Encoded :=
  .word (m ||| putRs1 rs1 ||| putRs2 rs2 ||| place 32 (imm.extractLsb 11 5) 25 ||| place 32 (imm.extractLsb 4 0) 7)
/-- B-type (R86). -/
def encB (m : Word) (rs1 rs2 : Reg) (imm : BitVec 13) : Encoded :=
  .word (m ||| putRs1 rs1 ||| putRs2 rs2 ||| place 32 (imm.extractLsb 12 12) 31 ||| place 32 (imm.extractLsb 10 5) 25
    ||| place 32 (imm.extractLsb 4 1) 8 ||| place 32 (imm.extractLsb 11 11) 7)
/-- U-type (R87). -/
def encU (m : Word) (rd : Reg) (imm : BitVec 20) : Encoded := .word (m ||| putRd rd ||| place 32 imm 12)
/-- J-type (R88). -/
def encJ (m : Word) (rd : Reg) (imm : BitVec 21) : Encoded :=
  .word (m ||| putRd rd ||| place 32 (imm.extractLsb 20 20) 31 ||| place 32 (imm.extractLsb 10 1) 21
    ||| place 32 (imm.extractLsb 11 11) 20 ||| place 32 (imm.extractLsb 19 12) 12)
/-- CSR form with an immediate (R89). -/
def encCsrImm (m : Word) (rd : Reg) (csr : BitVec 12) (uimm : BitVec 5) : Encoded :=
  .word (m ||| putRd rd ||| place 32 uimm 15 ||| place 32 csr 20)
/-- Atomic form (R90). -/
def encAtomic (m : Word) (rd rs2 rs1 : Reg) (aq rl : Bool) : Encoded :=
  .word (m ||| putRd rd ||| putRs1 rs1 ||| putRs2 rs2 ||| place 32 (BitVec.ofBool aq) 26 ||| place 32 (BitVec.ofBool rl) 25)

def putReg (r : Reg) : Half := place 16 (regField r) 7
def putHalfRs2 (r : Reg) : Half := place 16 (regField r) 2
def putHigh (r : Reg) : Half := place 16 (primeField r) 7
def putLow (r : Reg) : Half := place 16 (primeField r) 2

/-- Bits 5 and 4:0 of a six-bit immediate, at `h[12]` and `h[6:2]`. -/
def putImm6 (imm : BitVec 6) : Half := place 16 (imm.extractLsb 5 5) 12 ||| place 16 (imm.extractLsb 4 0) 2

/-- R244: bits 5:3 at `h[12:10]`, bit 2 at `h[6]`, bit 6 at `h[5]`. -/
def putUimmWord (u : BitVec 7) : Half :=
  place 16 (u.extractLsb 5 3) 10 ||| place 16 (u.extractLsb 2 2) 6 ||| place 16 (u.extractLsb 6 6) 5

/-- R248. -/
def putJump (o : BitVec 12) : Half :=
  place 16 (o.extractLsb 11 11) 12 ||| place 16 (o.extractLsb 4 4) 11 ||| place 16 (o.extractLsb 9 8) 9
    ||| place 16 (o.extractLsb 10 10) 8 ||| place 16 (o.extractLsb 6 6) 7 ||| place 16 (o.extractLsb 7 7) 6
    ||| place 16 (o.extractLsb 3 1) 3 ||| place 16 (o.extractLsb 5 5) 2

/-- R260. -/
def putBranch (o : BitVec 9) : Half :=
  place 16 (o.extractLsb 8 8) 12 ||| place 16 (o.extractLsb 4 3) 10 ||| place 16 (o.extractLsb 7 6) 5
    ||| place 16 (o.extractLsb 2 1) 3 ||| place 16 (o.extractLsb 5 5) 2

/-- The parcel or word of a well-formed instruction. -/
def encodeParcels : Instr → Encoded
  | .add rd rs1 rs2 => encR 0x00000033 rd rs1 rs2
  | .sub rd rs1 rs2 => encR 0x40000033 rd rs1 rs2
  | .slt rd rs1 rs2 => encR 0x00002033 rd rs1 rs2
  | .sltu rd rs1 rs2 => encR 0x00003033 rd rs1 rs2
  | .and rd rs1 rs2 => encR 0x00007033 rd rs1 rs2
  | .or rd rs1 rs2 => encR 0x00006033 rd rs1 rs2
  | .xor rd rs1 rs2 => encR 0x00004033 rd rs1 rs2
  | .sll rd rs1 rs2 => encR 0x00001033 rd rs1 rs2
  | .srl rd rs1 rs2 => encR 0x00005033 rd rs1 rs2
  | .sra rd rs1 rs2 => encR 0x40005033 rd rs1 rs2
  | .addi rd rs1 imm => encI 0x00000013 rd rs1 imm
  | .slti rd rs1 imm => encI 0x00002013 rd rs1 imm
  | .sltiu rd rs1 imm => encI 0x00003013 rd rs1 imm
  | .andi rd rs1 imm => encI 0x00007013 rd rs1 imm
  | .ori rd rs1 imm => encI 0x00006013 rd rs1 imm
  | .xori rd rs1 imm => encI 0x00004013 rd rs1 imm
  | .slli rd rs1 shamt => encShift 0x00001013 rd rs1 shamt
  | .srli rd rs1 shamt => encShift 0x00005013 rd rs1 shamt
  | .srai rd rs1 shamt => encShift 0x40005013 rd rs1 shamt
  | .lui rd imm => encU 0x00000037 rd imm
  | .auipc rd imm => encU 0x00000017 rd imm
  | .jal rd offset => encJ 0x0000006F rd offset
  | .jalr rd rs1 imm => encI 0x00000067 rd rs1 imm
  | .beq rs1 rs2 offset => encB 0x00000063 rs1 rs2 offset
  | .bne rs1 rs2 offset => encB 0x00001063 rs1 rs2 offset
  | .blt rs1 rs2 offset => encB 0x00004063 rs1 rs2 offset
  | .bge rs1 rs2 offset => encB 0x00005063 rs1 rs2 offset
  | .bltu rs1 rs2 offset => encB 0x00006063 rs1 rs2 offset
  | .bgeu rs1 rs2 offset => encB 0x00007063 rs1 rs2 offset
  | .lw rd imm rs1 => encI 0x00002003 rd rs1 imm
  | .lh rd imm rs1 => encI 0x00001003 rd rs1 imm
  | .lhu rd imm rs1 => encI 0x00005003 rd rs1 imm
  | .lb rd imm rs1 => encI 0x00000003 rd rs1 imm
  | .lbu rd imm rs1 => encI 0x00004003 rd rs1 imm
  | .sw rs2 imm rs1 => encS 0x00002023 rs2 imm rs1
  | .sh rs2 imm rs1 => encS 0x00001023 rs2 imm rs1
  | .sb rs2 imm rs1 => encS 0x00000023 rs2 imm rs1
  | .mul rd rs1 rs2 => encR 0x02000033 rd rs1 rs2
  | .mulh rd rs1 rs2 => encR 0x02001033 rd rs1 rs2
  | .mulhsu rd rs1 rs2 => encR 0x02002033 rd rs1 rs2
  | .mulhu rd rs1 rs2 => encR 0x02003033 rd rs1 rs2
  | .div rd rs1 rs2 => encR 0x02004033 rd rs1 rs2
  | .divu rd rs1 rs2 => encR 0x02005033 rd rs1 rs2
  | .rem rd rs1 rs2 => encR 0x02006033 rd rs1 rs2
  | .remu rd rs1 rs2 => encR 0x02007033 rd rs1 rs2
  | .lrW rd rs1 aq rl => encAtomic 0x1000202F rd 0 rs1 aq rl
  | .scW rd rs2 rs1 aq rl => encAtomic 0x1800202F rd rs2 rs1 aq rl
  | .amoswapW rd rs2 rs1 aq rl => encAtomic 0x0800202F rd rs2 rs1 aq rl
  | .amoaddW rd rs2 rs1 aq rl => encAtomic 0x0000202F rd rs2 rs1 aq rl
  | .amoxorW rd rs2 rs1 aq rl => encAtomic 0x2000202F rd rs2 rs1 aq rl
  | .amoandW rd rs2 rs1 aq rl => encAtomic 0x6000202F rd rs2 rs1 aq rl
  | .amoorW rd rs2 rs1 aq rl => encAtomic 0x4000202F rd rs2 rs1 aq rl
  | .amominW rd rs2 rs1 aq rl => encAtomic 0x8000202F rd rs2 rs1 aq rl
  | .amomaxW rd rs2 rs1 aq rl => encAtomic 0xA000202F rd rs2 rs1 aq rl
  | .amominuW rd rs2 rs1 aq rl => encAtomic 0xC000202F rd rs2 rs1 aq rl
  | .amomaxuW rd rs2 rs1 aq rl => encAtomic 0xE000202F rd rs2 rs1 aq rl
  | .csrrw rd csr rs1 => encI 0x00001073 rd rs1 csr
  | .csrrc rd csr rs1 => encI 0x00003073 rd rs1 csr
  | .csrrs rd csr rs1 => encI 0x00002073 rd rs1 csr
  | .csrrwi rd csr uimm => encCsrImm 0x00005073 rd csr uimm
  | .csrrci rd csr uimm => encCsrImm 0x00007073 rd csr uimm
  | .csrrsi rd csr uimm => encCsrImm 0x00006073 rd csr uimm
  | .ecall => .word 0x00000073
  | .ebreak => .word 0x00100073
  | .sh1add rd rs1 rs2 => encR 0x20002033 rd rs1 rs2
  | .sh2add rd rs1 rs2 => encR 0x20004033 rd rs1 rs2
  | .sh3add rd rs1 rs2 => encR 0x20006033 rd rs1 rs2
  | .andn rd rs1 rs2 => encR 0x40007033 rd rs1 rs2
  | .clz rd rs1 => encUnary 0x60001013 rd rs1
  | .cpop rd rs1 => encUnary 0x60201013 rd rs1
  | .ctz rd rs1 => encUnary 0x60101013 rd rs1
  | .max rd rs1 rs2 => encR 0x0A006033 rd rs1 rs2
  | .maxu rd rs1 rs2 => encR 0x0A007033 rd rs1 rs2
  | .min rd rs1 rs2 => encR 0x0A004033 rd rs1 rs2
  | .minu rd rs1 rs2 => encR 0x0A005033 rd rs1 rs2
  | .orcB rd rs1 => encUnary 0x28705013 rd rs1
  | .orn rd rs1 rs2 => encR 0x40006033 rd rs1 rs2
  | .rev8 rd rs1 => encUnary 0x69805013 rd rs1
  | .rol rd rs1 rs2 => encR 0x60001033 rd rs1 rs2
  | .ror rd rs1 rs2 => encR 0x60005033 rd rs1 rs2
  | .rori rd rs1 shamt => encShift 0x60005013 rd rs1 shamt
  | .sextB rd rs1 => encUnary 0x60401013 rd rs1
  | .sextH rd rs1 => encUnary 0x60501013 rd rs1
  | .xnor rd rs1 rs2 => encR 0x40004033 rd rs1 rs2
  | .zextH rd rs1 => encUnary 0x08004033 rd rs1
  | .clmul rd rs1 rs2 => encR 0x0A001033 rd rs1 rs2
  | .clmulh rd rs1 rs2 => encR 0x0A003033 rd rs1 rs2
  | .clmulr rd rs1 rs2 => encR 0x0A002033 rd rs1 rs2
  | .bclr rd rs1 rs2 => encR 0x48001033 rd rs1 rs2
  | .bclri rd rs1 shamt => encShift 0x48001013 rd rs1 shamt
  | .bext rd rs1 rs2 => encR 0x48005033 rd rs1 rs2
  | .bexti rd rs1 shamt => encShift 0x48005013 rd rs1 shamt
  | .binv rd rs1 rs2 => encR 0x68001033 rd rs1 rs2
  | .binvi rd rs1 shamt => encShift 0x68001013 rd rs1 shamt
  | .bset rd rs1 rs2 => encR 0x28001033 rd rs1 rs2
  | .bseti rd rs1 shamt => encShift 0x28001013 rd rs1 shamt
  | .fence fm pred succ rs1 rd => .word (0x0000000F ||| putRd rd ||| putRs1 rs1 ||| place 32 fm 28 ||| place 32 pred 24
    ||| place 32 succ 20)
  | .fenceI imm rs1 rd => encI 0x0000100F rd rs1 imm
  | .mret => .word 0x30200073
  | .wfi => .word 0x10500073
  | .cAddi4spn rd' u => .half (0x0000 ||| putLow rd' ||| place 16 (u.extractLsb 5 4) 11 ||| place 16 (u.extractLsb 9 6) 7
    ||| place 16 (u.extractLsb 2 2) 6 ||| place 16 (u.extractLsb 3 3) 5)
  | .cLw rd' u rs1' => .half (0x4000 ||| putLow rd' ||| putHigh rs1' ||| putUimmWord u)
  | .cSw rs2' u rs1' => .half (0xC000 ||| putLow rs2' ||| putHigh rs1' ||| putUimmWord u)
  | .cNop imm => .half (0x0001 ||| putImm6 imm)
  | .cAddi rd imm => .half (0x0001 ||| putReg rd ||| putImm6 imm)
  | .cJal o => .half (0x2001 ||| putJump o)
  | .cLi rd imm => .half (0x4001 ||| putReg rd ||| putImm6 imm)
  | .cAddi16sp z => .half (0x6101 ||| place 16 (z.extractLsb 9 9) 12 ||| place 16 (z.extractLsb 4 4) 6
    ||| place 16 (z.extractLsb 6 6) 5 ||| place 16 (z.extractLsb 8 7) 3 ||| place 16 (z.extractLsb 5 5) 2)
  | .cLui rd imm => .half (0x6001 ||| putReg rd ||| putImm6 imm)
  | .cSrli rd' s => .half (0x8001 ||| putHigh rd' ||| place 16 s 2)
  | .cSrai rd' s => .half (0x8401 ||| putHigh rd' ||| place 16 s 2)
  | .cAndi rd' imm => .half (0x8801 ||| putHigh rd' ||| putImm6 imm)
  | .cSub rd' rs2' => .half (0x8C01 ||| putHigh rd' ||| putLow rs2')
  | .cXor rd' rs2' => .half (0x8C21 ||| putHigh rd' ||| putLow rs2')
  | .cOr rd' rs2' => .half (0x8C41 ||| putHigh rd' ||| putLow rs2')
  | .cAnd rd' rs2' => .half (0x8C61 ||| putHigh rd' ||| putLow rs2')
  | .cJ o => .half (0xA001 ||| putJump o)
  | .cBeqz rs1' o => .half (0xC001 ||| putHigh rs1' ||| putBranch o)
  | .cBnez rs1' o => .half (0xE001 ||| putHigh rs1' ||| putBranch o)
  | .cSlli rd s => .half (0x0002 ||| putReg rd ||| place 16 s 2)
  | .cLwsp rd u => .half (0x4002 ||| putReg rd ||| place 16 (u.extractLsb 5 5) 12 ||| place 16 (u.extractLsb 4 2) 4
    ||| place 16 (u.extractLsb 7 6) 2)
  | .cJr rs1 => .half (0x8002 ||| putReg rs1)
  | .cMv rd rs2 => .half (0x8002 ||| putReg rd ||| putHalfRs2 rs2)
  | .cEbreak => .half 0x9002
  | .cJalr rs1 => .half (0x9002 ||| putReg rs1)
  | .cAdd rd rs2 => .half (0x9002 ||| putReg rd ||| putHalfRs2 rs2)
  | .cSwsp rs2 u => .half (0xC002 ||| putHalfRs2 rs2 ||| place 16 (u.extractLsb 5 2) 9 ||| place 16 (u.extractLsb 7 6) 7)

/-- An encoding's bytes in address order (R52). -/
def Encoded.bytes : Encoded → List Byte
  | .half h => bytesOf 2 h.toNat
  | .word w => bytesOf 4 w.toNat

/-- The bytes of a well-formed instruction, in address order. -/
def encode (i : Instr) : List Byte := (encodeParcels i).bytes

end Sys2Proof
end

