-- ==== Sys2Proof/Config.lean ====
section
/-! DEFINITION. What the spec leaves open (R10 in 00_scope.md, D6, D12, D17, D22 in 92_eei_decisions.md): the free
values, which are constants without a body, and the launch, whose open parameters are plain data. -/

namespace Sys2Proof

/-- The kinds of access `MEM_MAP` distinguishes (R58). -/
inductive AccessKind where
  | fetch | read | write | exclusiveRead | exclusiveWrite
  deriving DecidableEq, Repr

/-- One entry of `MEM_MAP` as plain data: the addresses `base` to `base + size - 1` are backed for accesses of these
kinds and of these widths in bytes. A list of entries can say any answer function on the aligned ranges of R58: give
each range and kind an entry of its own. (log 4) -/
structure Region where
  base : Nat
  size : Nat
  kinds : List AccessKind
  widths : List Nat
  deriving DecidableEq, Repr

/-- The global monitor's answer to an exclusive read (R42, R61). -/
inductive ReadAnswer where
  | granted | refused
  deriving DecidableEq, Repr, Inhabited

/-- The global monitor's answer to an exclusive write (R42, R61). -/
inductive WriteAnswer where
  | ok | lost
  deriving DecidableEq, Repr, Inhabited

namespace Config

/-! ## Free values

Nothing in the model fixes them: each is applied to the number of values already drawn (State's `draws`), so every
draw is a new value, and a theorem about the model holds whatever they are. -/

/-- The value a trap writes to `mtval` (R34, D17), and what a read of `mcause` returns after software wrote a value
no trap writes (R33, D20). -/
opaque freeWord : Nat → Word

/-- A cycle count, or the part of one that the source leaves open (R412, R416, R421, D22). -/
opaque freeCount : Nat → Nat

/-- The global monitor's answer to an exclusive read past the answers State lists (D12). -/
opaque freeReadAnswer : Nat → ReadAnswer

/-- The global monitor's answer to an exclusive write past the answers State lists (D12). -/
opaque freeWriteAnswer : Nat → WriteAnswer

end Config

/-- What a launch supplies (R404 in 70_reset_and_hazards.md): the open parameters `RESET_VECTOR`, `MTVEC_INIT`,
`MEM_MAP`, the memory image, and the answers the global monitor is assumed to give. `END_PC` is not part of the
machine (R403): Safety.lean takes it. -/
structure Launch where
  resetVector : Word
  mtvecInit : Word
  memMap : List Region
  image : List Host.Cell
  monitorReads : List ReadAnswer
  monitorWrites : List WriteAnswer
  deriving DecidableEq, Repr

namespace Config

/-- Every address backed, for every kind and width. -/
def wholeSpace : Region :=
  ⟨0, 2 ^ 32, [.fetch, .read, .write, .exclusiveRead, .exclusiveWrite], [1, 2, 4]⟩

/-- DESIGN CHOICE (logs 3, 4, 5, 6): the launch behind `State.reset`. The spec leaves every part of it open (D6, D11,
D12): both vectors 0, the whole address space backed, no byte of memory with a value, no monitor answer fixed. -/
def launch : Launch :=
  { resetVector := 0, mtvecInit := 0, memMap := [wholeSpace], image := [], monitorReads := [], monitorWrites := [] }

end Config

end Sys2Proof
end

