-- ==== Sys2Proof/Machine/State.lean ====
section
/-! DEFINITION. The machine's state as plain data (10_state.md), the reasons a step stops (R362 in 60_exceptions.md),
and the state after reset (R45, R400). Reading and writing any of it is in Ops.lean; here are only the types and the
plain setters. -/

namespace Sys2Proof.Machine

/-- Memory: the bytes that hold a value, by address (R39). An address that is not listed holds no value. The canonical
form is `Memory.wf` in Ops.lean. (log 5) -/
abbrev Memory := List Host.Cell

/-- A set of byte addresses, in rising order without repeats. -/
abbrev AddrSet := List Nat

/-- The two writable bits of `mstatus`; MPP is hardwired `0b11`, all else 0 (R31). -/
structure Mstatus where
  mie : Bool
  mpie : Bool
  deriving DecidableEq, Repr

/-- The writable bits of `mtvec`: BASE is bits 31:2, MODE[0] bit 0; bit 1 is hardwired 0 (R30). -/
structure Mtvec where
  base : BitVec 30
  mode0 : Bool
  deriving DecidableEq, Repr

/-- The state of the hart and of the model around it. -/
structure State where
  /-- `x1` to `x31`, `x1` first; `x0` has no storage (R20). -/
  regs : Vector Word 31
  /-- R24 to R27. -/
  pc : Word
  /-- CSR 0x300 (R31). -/
  mstatus : Mstatus
  /-- CSR 0x305 (R30). -/
  mtvec : Mtvec
  /-- CSR 0x340 (R35). -/
  mscratch : Word
  /-- CSR 0x341 (R32). -/
  mepc : Word
  /-- CSR 0x342 (R33). -/
  mcause : Word
  /-- CSR 0x343 (R34). -/
  mtval : Word
  /-- The local monitor: true is set (R41). -/
  lm : Bool
  /-- R39. -/
  mem : Memory
  /-- The bytes stored to since the last `fence.i` (R46). -/
  storedSinceFenceI : AddrSet
  /-- Cycles on a perfect bus (R44, R410). No instruction reads it. -/
  cycles : Nat
  /-- The launch's `MEM_MAP` (R58). No step writes it. (log 4) -/
  memMap : List Region
  /-- The global monitor's answers to the coming exclusive reads; past them each is a free value. (log 6) -/
  monitorReads : List ReadAnswer
  /-- The global monitor's answers to the coming exclusive writes; past them each is a free value. (log 6) -/
  monitorWrites : List WriteAnswer
  /-- The model's own: how many free values have been drawn. (log 11) -/
  draws : Nat
  deriving DecidableEq, Repr

/-- Why the machine stops with a fault. A fault is the model's: the run has no meaning from there (R362). -/
inductive Fault where
  /-- Raised by a load, `lr.w`, an AMO or an instruction fetch of `width` bytes at `addr` when one of them holds no
  value (R57, R59, U11). Safe: the hardware reads some value and goes on. (log 5) -/
  | memoryHoldsNoValue (addr : Word) (width : Nat)
  deriving DecidableEq, Repr

/-- Why the machine gives a case no meaning (R362). -/
inductive Refusal where
  /-- Raised by an arm of `exec` whose instruction has no meaning yet. Safe. -/
  | notModelled (mnemonic : String)
  /-- Raised by a CSR instruction whose CSR is none of the six (R36, R280). Safe: on the hardware the access works or
  traps. (log 13) -/
  | unknownCsr (csr : BitVec 12)
  /-- Raised by the fetch of a parcel with a byte stored to since the last `fence.i` (R67). Safe. (log 15) -/
  | fetchOfStoredBytes (addr : Word)
  /-- Raised by the fetch of a 32-bit instruction at 0xFFFFFFFE (R27). Safe. (log 14) -/
  | fetchStraddlesTop
  deriving DecidableEq, Repr

/-- What one step answers. -/
abbrev Result := Host.Outcome State Fault Refusal

namespace State

def setRegs (v : Vector Word 31) (s : State) : State := { s with regs := v }
def setPc (v : Word) (s : State) : State := { s with pc := v }
def setMstatus (v : Mstatus) (s : State) : State := { s with mstatus := v }
def setMtvec (v : Mtvec) (s : State) : State := { s with mtvec := v }
def setMscratch (v : Word) (s : State) : State := { s with mscratch := v }
def setMepc (v : Word) (s : State) : State := { s with mepc := v }
def setMcause (v : Word) (s : State) : State := { s with mcause := v }
def setMtval (v : Word) (s : State) : State := { s with mtval := v }
def setLm (v : Bool) (s : State) : State := { s with lm := v }
def setMem (v : Memory) (s : State) : State := { s with mem := v }
def setStoredSinceFenceI (v : AddrSet) (s : State) : State := { s with storedSinceFenceI := v }
def setCycles (v : Nat) (s : State) : State := { s with cycles := v }
def setMemMap (v : List Region) (s : State) : State := { s with memMap := v }
def setMonitorReads (v : List ReadAnswer) (s : State) : State := { s with monitorReads := v }
def setMonitorWrites (v : List WriteAnswer) (s : State) : State := { s with monitorWrites := v }
def setDraws (v : Nat) (s : State) : State := { s with draws := v }

/-- The state a launch starts in (R45, R400). The general registers and `mscratch`, `mepc`, `mcause`, `mtval`, for
which the spec gives no value, are 0: DESIGN CHOICE. (logs 1, 2) -/
def launch (l : Launch) : State :=
  { regs := Vector.replicate 31 0
    pc := l.resetVector
    mstatus := { mie := false, mpie := false }
    mtvec := { base := l.mtvecInit.extractLsb 31 2, mode0 := l.mtvecInit.getLsbD 0 }
    mscratch := 0
    mepc := 0
    mcause := 0
    mtval := 0
    lm := false
    mem := l.image
    storedSinceFenceI := []
    cycles := 0
    memMap := l.memMap
    monitorReads := l.monitorReads
    monitorWrites := l.monitorWrites
    draws := 0 }

/-- The machine right after reset: the launch of Config with nothing in memory. (logs 1 to 6) -/
def reset : State := launch Config.launch

end State

end Sys2Proof.Machine
end

