-- ==== Sys2Proof/Machine/Ops.lean ====
section
/-! DEFINITION. The operations every meaning is written over: general registers, memory and its map, the monitors, cycle
charges, exceptions and taking one, the return from one, and the control and status registers (10_state.md,
20_memory.md, 60_exceptions.md, R280 in 46_zicsr_privileged.md, R410 in 70_reset_and_hazards.md). -/

namespace Sys2Proof.Machine

open Sys2Proof

/-! ## General registers (R20, R22) -/

/-- The register file's content for a register number; `x0` reads 0 (R20). -/
def regsAt (r : Reg) (regs : Vector Word 31) : Word :=
  if h : r.val = 0 then 0 else regs[r.val - 1]'(by omega)

/-- The register file after a write; a write to `x0` is discarded (R20). -/
def regsWith (r : Reg) (v : Word) (regs : Vector Word 31) : Vector Word 31 :=
  if h : r.val = 0 then regs else regs.set (r.val - 1) v (by omega)

/-- `x[r]` (R12). -/
def readReg (r : Reg) (s : State) : Word := regsAt r s.regs

/-- `x[r] <- v` (R12). -/
def writeReg (r : Reg) (v : Word) (s : State) : State := s.setRegs (regsWith r v s.regs)

/-! ## Program counter (R24, R25) -/

/-- `pc <- pc + ilen`, `ilen` 4 for a 32-bit encoding and 2 for a 16-bit one (R25). -/
def advance (ilen : Word) (s : State) : State := s.setPc (s.pc + ilen)

/-! ## Memory as data (R39, R50, R51) -/

/-- The byte an address holds, if it holds a value (R39). -/
def Memory.read : Memory → Nat → Option Byte
  | [], _ => none
  | c :: m, a => if c.1 = a then some c.2 else Memory.read m a

/-- Memory with one byte written, in canonical form if it was. -/
def Memory.write : Memory → Nat → Byte → Memory
  | [], a, b => [(a, b)]
  | c :: m, a, b =>
    if a < c.1 then (a, b) :: c :: m
    else if a = c.1 then (a, b) :: m
    else c :: Memory.write m a b

/-- The canonical form: addresses strictly rising, inside the address space. No entry can equal what an unlisted
address reads as, since an unlisted address holds no value. -/
abbrev Memory.wf (m : Memory) : Prop := m.Pairwise (fun c d => c.1 < d.1) ∧ ∀ c ∈ m, c.1 < 2 ^ 32

/-- A list of bytes from an address upwards, if every one holds a value. -/
def Memory.readBytes (m : Memory) : Nat → Nat → Option (List Byte)
  | 0, _ => some []
  | n + 1, a =>
    match m.read a, Memory.readBytes m n (a + 1) with
    | some b, some bs => some (b :: bs)
    | _, _ => none

/-- Memory with a list of bytes written from an address upwards. -/
def Memory.writeBytes : Memory → Nat → List Byte → Memory
  | m, _, [] => m
  | m, a, b :: bs => Memory.writeBytes (m.write a b) (a + 1) bs

/-- A set of addresses with one more. -/
def AddrSet.insert : AddrSet → Nat → AddrSet
  | [], a => [a]
  | b :: t, a => if a < b then a :: b :: t else if a = b then b :: t else b :: AddrSet.insert t a

/-- A set of addresses with `n` more, from `a` upwards. -/
def AddrSet.insertRange : AddrSet → Nat → Nat → AddrSet
  | t, _, 0 => t
  | t, a, n + 1 => AddrSet.insertRange (t.insert a) (a + 1) n

/-- The canonical form of a set of addresses. -/
abbrev AddrSet.wf (t : AddrSet) : Prop := t.Pairwise (fun a b => a < b)

/-- A pattern from its bytes, the lowest address first (R51). -/
def joinBytes : List Byte → Word
  | [] => 0
  | b :: bs => b.setWidth 32 ||| (joinBytes bs <<< 8)

/-- The low `n` bytes of a pattern, the least significant first (R51). -/
def splitBytes : Nat → Word → List Byte
  | 0, _ => []
  | n + 1, v => v.setWidth 8 :: splitBytes n (v >>> 8)

/-! ## Exceptions (R360) -/

/-- The synchronous exceptions, with the `info` their `raise` passes. Code 0 is not among them: nothing raises it (R26). -/
inductive Exception where
  | instructionAccessFault (pc : Word)
  | illegalInstruction (bits : Word)
  | breakpoint
  | loadAddressMisaligned (addr : Word)
  | loadAccessFault (addr : Word)
  | storeAmoAddressMisaligned (addr : Word)
  | storeAmoAccessFault (addr : Word)
  | environmentCallFromMMode
  deriving DecidableEq, Repr

/-- The code written to `mcause` (R360). -/
def Exception.code : Exception → Word
  | .instructionAccessFault _ => 1
  | .illegalInstruction _ => 2
  | .breakpoint => 3
  | .loadAddressMisaligned _ => 4
  | .loadAccessFault _ => 5
  | .storeAmoAddressMisaligned _ => 6
  | .storeAmoAccessFault _ => 7
  | .environmentCallFromMMode => 11

/-! ## The memory map and the data accesses (R55 to R58) -/

/-- Whether an entry of `MEM_MAP` backs `n` bytes at `addr` for a kind of access. -/
def regionBacks (k : AccessKind) (n addr : Nat) (r : Region) : Bool :=
  decide (r.base ≤ addr) && decide (addr + n ≤ r.base + r.size) && r.kinds.contains k && r.widths.contains n

/-- `MEM_MAP(addr..addr+n-1, k) = backed` (R58). A range that would leave the address space is not backed. -/
def backed (k : AccessKind) (n : Nat) (addr : Word) (s : State) : Bool :=
  decide (addr.toNat + n ≤ 2 ^ 32) && s.memMap.any (regionBacks k n addr.toNat)

/-- Whether `MEM_MAP` backs an access that is of several kinds at once. -/
def backedAll (ks : List AccessKind) (n : Nat) (addr : Word) (s : State) : Bool := ks.all fun k => backed k n addr s

/-- Whose exception codes an access raises with (R57, R58, R61). -/
inductive AccessBy where
  | load | storeAmo
  deriving DecidableEq, Repr

def misalignedFor : AccessBy → Word → Exception
  | .load, addr => .loadAddressMisaligned addr
  | .storeAmo, addr => .storeAmoAddressMisaligned addr

def accessFaultFor : AccessBy → Word → Exception
  | .load, addr => .loadAccessFault addr
  | .storeAmo, addr => .storeAmoAccessFault addr

/-- What an access answers: a value, an exception, or the model's fault. -/
inductive Access (α : Type) where
  | value (v : α)
  | raises (e : Exception)
  | faults (f : Fault)
  deriving DecidableEq, Repr

/-- `addr mod n = 0` (R55). -/
def naturallyAligned (n : Nat) (addr : Word) : Bool := addr.toNat % n == 0

/-- `MemRead(addr, n)` (R57), in its order: alignment, map, values. A byte or halfword comes zero-extended. -/
def memRead (by' : AccessBy) (ks : List AccessKind) (n : Nat) (addr : Word) (s : State) : Access Word :=
  if !naturallyAligned n addr then .raises (misalignedFor by' addr)
  else if !backedAll ks n addr s then .raises (accessFaultFor by' addr)
  else
    match s.mem.readBytes n addr.toNat with
    | none => .faults (.memoryHoldsNoValue addr n)
    | some bs => .value (joinBytes bs)

/-- The bytes of a store: memory, and the set of bytes stored to since the last `fence.i` (R57, R46). -/
def storeBytes (n : Nat) (addr : Word) (v : Word) (s : State) : State :=
  (s.setMem (s.mem.writeBytes addr.toNat (splitBytes n v))).setStoredSinceFenceI
    (s.storedSinceFenceI.insertRange addr.toNat n)

/-- `MemWrite(addr, n, v)` (R57), in its order: alignment, map, bytes. -/
def memWrite (ks : List AccessKind) (n : Nat) (addr : Word) (v : Word) (s : State) : Except Exception State :=
  if !naturallyAligned n addr then .error (.storeAmoAddressMisaligned addr)
  else if !backedAll ks n addr s then .error (.storeAmoAccessFault addr)
  else .ok (storeBytes n addr v s)

/-! ## The global monitor (R42, R61) -/

/-- The kinds of access an exclusive read is: the read and the exclusive read of R58. DEDUCED. (log 9) -/
def exclusiveReadKinds : List AccessKind := [.read, .exclusiveRead]

/-- The kinds of access an exclusive write is. DEDUCED. (log 9) -/
def exclusiveWriteKinds : List AccessKind := [.write, .exclusiveWrite]

/-- The global monitor's answer to an exclusive read: the next one listed, else a free value. (log 6) -/
def readAnswer (s : State) : ReadAnswer :=
  match s.monitorReads with
  | [] => Config.freeReadAnswer s.draws
  | g :: _ => g

/-- The state once that answer is given. -/
def afterReadAnswer (s : State) : State :=
  (s.setMonitorReads s.monitorReads.tail).setDraws (if s.monitorReads.isEmpty then s.draws + 1 else s.draws)

/-- The global monitor's answer to an exclusive write: the next one listed, else a free value. (log 6) -/
def writeAnswer (s : State) : WriteAnswer :=
  match s.monitorWrites with
  | [] => Config.freeWriteAnswer s.draws
  | g :: _ => g

/-- The state once that answer is given. -/
def afterWriteAnswer (s : State) : State :=
  (s.setMonitorWrites s.monitorWrites.tail).setDraws (if s.monitorWrites.isEmpty then s.draws + 1 else s.draws)

/-! ## Cycles (R410, R421) -/

/-- What an instruction costs: a number, a number the source gives a range for, or one it does not give. -/
inductive Cost where
  | exactly (n : Nat)
  | between (lo hi : Nat)
  | unknown
  deriving DecidableEq, Repr

/-- The cycles of a cost, given the number of values drawn so far. -/
def Cost.cycles (draws : Nat) : Cost → Nat
  | .exactly n => n
  | .between lo hi => lo + Config.freeCount draws % (hi + 1 - lo)
  | .unknown => Config.freeCount draws

/-- The number of values drawn once a cost is settled. -/
def Cost.drawsAfter (draws : Nat) : Cost → Nat
  | .exactly _ => draws
  | .between _ _ => draws + 1
  | .unknown => draws + 1

/-- `cycles <- cycles + cost` (R410). -/
def charge (c : Cost) (s : State) : State := (s.setCycles (s.cycles + c.cycles s.draws)).setDraws (c.drawsAfter s.draws)

/-- What raising an exception costs: 3 for the two trap requests (R418), else unknown (R421). -/
def Exception.cost : Exception → Cost
  | .breakpoint => .exactly 3
  | .environmentCallFromMMode => .exactly 3
  | .instructionAccessFault _ => .unknown
  | .illegalInstruction _ => .unknown
  | .loadAddressMisaligned _ => .unknown
  | .loadAccessFault _ => .unknown
  | .storeAmoAddressMisaligned _ => .unknown
  | .storeAmoAccessFault _ => .unknown

/-! ## Taking an exception and returning from one (R370, R372) -/

/-- The handler's address, `{mtvec.BASE, 0b00}`, in both modes (R30, R370). -/
def trapTarget (s : State) : Word := s.mtvec.base ++ 0#2

/-- The trap's writes to the registers it saves into (R370). `mtval` is a free value (R361). -/
def saveTrap (e : Exception) (s : State) : State :=
  ((((s.setMepc (clearBit0 s.pc)).setMcause e.code).setMtval (Config.freeWord s.draws)).setDraws (s.draws + 1)).setMstatus
    { mie := false, mpie := s.mstatus.mie }

/-- `raise E(info)` (R370), from the state of the instruction that raises: registers saved, MIE moved to MPIE and
cleared, the pc at the handler; then its cycles. -/
def takeTrap (e : Exception) (s : State) : State := charge e.cost ((saveTrap e s).setPc (trapTarget s))

/-- The return from a trap (R352, R372): `pc <- mepc`, `MIE <- MPIE`, `MPIE <- 1`. -/
def returnFromTrap (s : State) : State := (s.setMstatus { mie := s.mstatus.mpie, mpie := true }).setPc s.mepc

/-! ## Control and status registers (R30 to R36, R280) -/

/-- The six modelled registers. -/
inductive Csr where
  | mstatus | mtvec | mscratch | mepc | mcause | mtval
  deriving DecidableEq, Repr

/-- The register a 12-bit address names, if it is one of the six (R36, R280). -/
def csrOf (a : BitVec 12) : Option Csr :=
  if a = 0x300#12 then some .mstatus
  else if a = 0x305#12 then some .mtvec
  else if a = 0x340#12 then some .mscratch
  else if a = 0x341#12 then some .mepc
  else if a = 0x342#12 then some .mcause
  else if a = 0x343#12 then some .mtval
  else none

/-- `{19{0}, 0b11, 3{0}, MPIE, 3{0}, MIE, 3{0}}` (R31, R280). -/
def mstatusWord (m : Mstatus) : Word :=
  0#19 ++ 3#2 ++ 0#3 ++ BitVec.ofBool m.mpie ++ 0#3 ++ BitVec.ofBool m.mie ++ 0#3

/-- The two writable bits of a written value (R31, R280). -/
def mstatusOf (v : Word) : Mstatus := { mie := v.getLsbD 3, mpie := v.getLsbD 7 }

/-- `{BASE, 0b0, MODE0}` (R30, R280). -/
def mtvecWord (m : Mtvec) : Word := m.base ++ 0#1 ++ BitVec.ofBool m.mode0

/-- The writable bits of a written value (R30, R280). -/
def mtvecOf (v : Word) : Mtvec := { base := v.extractLsb 31 2, mode0 := v.getLsbD 0 }

/-- A value of `mcause` that reads back as written: bit 31 is 0 and bits 30:0 are a code of R360's table (R33, R280). -/
def mcauseLegal (v : Word) : Bool := [0, 1, 2, 3, 4, 5, 6, 7, 11].contains v.toNat

/-- The value `CsrRead` returns (R280). For `mcause` after an illegal write it is a free value (R33). -/
def csrValue (c : Csr) (s : State) : Word :=
  match c with
  | .mstatus => mstatusWord s.mstatus
  | .mtvec => mtvecWord s.mtvec
  | .mscratch => s.mscratch
  | .mepc => s.mepc
  | .mcause => if mcauseLegal s.mcause then s.mcause else Config.freeWord s.draws
  | .mtval => s.mtval

/-- The state after `CsrRead`: no architectural side effect (R280); a free value was drawn if one was read. -/
def afterCsrRead (c : Csr) (s : State) : State :=
  s.setDraws (if c = .mcause ∧ ¬ mcauseLegal s.mcause then s.draws + 1 else s.draws)

/-- `CsrWrite` (R280). -/
def csrWrite (c : Csr) (v : Word) (s : State) : State :=
  match c with
  | .mstatus => s.setMstatus (mstatusOf v)
  | .mtvec => s.setMtvec (mtvecOf v)
  | .mscratch => s.setMscratch v
  | .mepc => s.setMepc (clearBit0 v)
  | .mcause => s.setMcause v
  | .mtval => s.setMtval v

/-! ## Instructions that only compute -/

/-- `x[rd] <- v; pc <- pc + ilen`, in `c` cycles. -/
def writeBack (ilen : Word) (c : Cost) (rd : Reg) (v : Word) (s : State) : Result :=
  .next (charge c (advance ilen (writeReg rd v s)))

/-- `writeBack` in 1 cycle (R411). -/
def compute (ilen : Word) (rd : Reg) (v : Word) (s : State) : Result := writeBack ilen (.exactly 1) rd v s

end Sys2Proof.Machine
end

