-- ==== Sys2Proof/Machine/Fetch.lean ====
section
/-! DEFINITION. Fetching an instruction (R52, R54, R59, R67 in 20_memory.md, R27, R46 in 10_state.md, R81 in
30_encoding.md), and placing one where the next fetch finds it. -/

namespace Sys2Proof.Machine

open Sys2Proof

/-- What a fetch answers. -/
inductive Fetched (α : Type) where
  | got (v : α)
  | raises (e : Exception)
  | refuses (r : Refusal)
  | faults (f : Fault)
  deriving Repr

/-- Whether any of `n` bytes from `a` is in the set. -/
def touchesSet (t : AddrSet) (a n : Nat) : Bool := t.any fun b => decide (a ≤ b) && decide (b < a + n)

/-- One parcel of the instruction at `pc`, read at `addr` (R59): the map, then the bytes stored to since the last
`fence.i` (R67), then the values. (log 26) -/
def fetchParcel (pc addr : Word) (s : State) : Fetched Half :=
  if !backed .fetch 2 addr s then .raises (.instructionAccessFault pc)
  else if touchesSet s.storedSinceFenceI addr.toNat 2 then .refuses (.fetchOfStoredBytes addr)
  else
    match s.mem.readBytes 2 addr.toNat with
    | some [b0, b1] => .got (parcelOf b0 b1)
    | _ => .faults (.memoryHoldsNoValue addr 2)

/-- The parcel at an address, if there is one: the map backs its fetch and both bytes hold a value (R39, R59). Whether
its bytes were stored to since the last `fence.i` is not asked: that decides about a fetch (R67), not about what is
there. DEDUCED. (log 33) -/
def parcelAt (addr : Word) (s : State) : Option Half :=
  if backed .fetch 2 addr s then
    match s.mem.readBytes 2 addr.toNat with
    | some [b0, b1] => some (parcelOf b0 b1)
    | _ => none
  else none

/-- The bytes of the two parcels of a 32-bit instruction, in address order (R52). -/
def parcelBytes (h : Half) : List Byte := [h.setWidth 8, (h >>> 8).setWidth 8]

/-- `Fetch(pc)` (R59): one parcel, and the next if the first says the instruction has 32 bits (R81). A 32-bit
instruction at 0xFFFFFFFE is refused (R27). (log 14) -/
def fetchBytes (s : State) : Fetched (List Byte) :=
  match fetchParcel s.pc s.pc s with
  | .raises e => .raises e
  | .refuses r => .refuses r
  | .faults f => .faults f
  | .got low =>
    if !isLong low then .got (parcelBytes low)
    else if s.pc = 0xFFFFFFFE#32 then .refuses .fetchStraddlesTop
    else
      match fetchParcel s.pc (s.pc + 2) s with
      | .raises e => .raises e
      | .refuses r => .refuses r
      | .faults f => .faults f
      | .got high => .got (parcelBytes low ++ parcelBytes high)

/-- The instruction at the pc. Bytes that are no instruction raise `IllegalInstruction` (R95, R96, R98, R270, R354). -/
def fetchInstr (s : State) : Fetched Instr :=
  match fetchBytes s with
  | .raises e => .raises e
  | .refuses r => .refuses r
  | .faults f => .faults f
  | .got bs =>
    match decode bs with
    | .ok (i, _) => .got i
    | .error e => .raises (.illegalInstruction e.bits)

/-- The instruction executed next, if the fetch at the pc gives one (the `J` of R410). DESIGN CHOICE: also
where the pc is the `END_PC` of a claim, at which nothing more is executed. (log 36) -/
def nextInstr (s : State) : Option Instr :=
  match fetchInstr s with
  | .got i => some i
  | .raises _ => none
  | .refuses _ => none
  | .faults _ => none

/-! ## Placing an instruction at the pc -/

/-- The bytes that fit below the top of the address space. -/
def fitting (a : Nat) (bs : List Byte) : List Byte := bs.take (2 ^ 32 - a)

/-- `MEM_MAP` with both parcels at `pc` backed for fetch; unchanged where it backs them already. -/
def mapForFetch (s : State) : List Region :=
  if backed .fetch 2 s.pc s && backed .fetch 2 (s.pc + 2) s then s.memMap
  else ⟨s.pc.toNat, 4, [.fetch], [2]⟩ :: s.memMap

/-- The state with these bytes in memory at the pc, as a launch would have loaded them: they hold values, are not
stored to since the last `fence.i`, and are backed for fetch. (log 24) -/
def placeAtPc (bs : List Byte) (s : State) : State :=
  let bs' := fitting s.pc.toNat bs
  ((s.setMem (s.mem.writeBytes s.pc.toNat bs')).setStoredSinceFenceI
    (s.storedSinceFenceI.filter fun b => !(decide (s.pc.toNat ≤ b) && decide (b < s.pc.toNat + bs'.length)))).setMemMap
    (mapForFetch s)

end Sys2Proof.Machine
end

