-- ==== Sys2Proof/Machine/Timing.lean ====
section
/-! DEFINITION. What each instruction costs on a perfect bus (R410 to R423 in 70_reset_and_hazards.md). No value depends
on it (R14). The costs that look at the instruction executed next take the state in which that instruction runs.
(log 12) -/

namespace Sys2Proof.Machine

open Sys2Proof

/-- The registers a 32-bit instruction reads: those it consumes in stage 2, and the data register of `sc.w` and the
AMOs, for which the source gives no stage (R412). The data register of a store is in neither list: it is consumed in
stage 3. -/
structure Reads where
  early : List Reg
  late : List Reg
  deriving DecidableEq, Repr

/-- R22, R412. -/
def readsOf : Instr → Reads
  | .add _ rs1 rs2 | .sub _ rs1 rs2 | .slt _ rs1 rs2 | .sltu _ rs1 rs2 | .and _ rs1 rs2 | .or _ rs1 rs2
  | .xor _ rs1 rs2 | .sll _ rs1 rs2 | .srl _ rs1 rs2 | .sra _ rs1 rs2 | .beq rs1 rs2 _ | .bne rs1 rs2 _
  | .blt rs1 rs2 _ | .bge rs1 rs2 _ | .bltu rs1 rs2 _ | .bgeu rs1 rs2 _ | .mul _ rs1 rs2 | .mulh _ rs1 rs2
  | .mulhsu _ rs1 rs2 | .mulhu _ rs1 rs2 | .div _ rs1 rs2 | .divu _ rs1 rs2 | .rem _ rs1 rs2 | .remu _ rs1 rs2
  | .sh1add _ rs1 rs2 | .sh2add _ rs1 rs2 | .sh3add _ rs1 rs2 | .andn _ rs1 rs2 | .max _ rs1 rs2
  | .maxu _ rs1 rs2 | .min _ rs1 rs2 | .minu _ rs1 rs2 | .orn _ rs1 rs2 | .rol _ rs1 rs2 | .ror _ rs1 rs2
  | .xnor _ rs1 rs2 | .clmul _ rs1 rs2 | .clmulh _ rs1 rs2 | .clmulr _ rs1 rs2 | .bclr _ rs1 rs2
  | .bext _ rs1 rs2 | .binv _ rs1 rs2 | .bset _ rs1 rs2 =>
    { early := [rs1, rs2], late := [] }
  | .addi _ rs1 _ | .slti _ rs1 _ | .sltiu _ rs1 _ | .andi _ rs1 _ | .ori _ rs1 _ | .xori _ rs1 _
  | .slli _ rs1 _ | .srli _ rs1 _ | .srai _ rs1 _ | .jalr _ rs1 _ | .lw _ _ rs1 | .lh _ _ rs1 | .lhu _ _ rs1
  | .lb _ _ rs1 | .lbu _ _ rs1 | .sw _ _ rs1 | .sh _ _ rs1 | .sb _ _ rs1 | .lrW _ rs1 _ _ | .csrrw _ _ rs1
  | .csrrc _ _ rs1 | .csrrs _ _ rs1 | .clz _ rs1 | .cpop _ rs1 | .ctz _ rs1 | .orcB _ rs1 | .rev8 _ rs1
  | .rori _ rs1 _ | .sextB _ rs1 | .sextH _ rs1 | .zextH _ rs1 | .bclri _ rs1 _ | .bexti _ rs1 _
  | .binvi _ rs1 _ | .bseti _ rs1 _ =>
    { early := [rs1], late := [] }
  | .lui _ _ | .auipc _ _ | .jal _ _ | .csrrwi _ _ _ | .csrrci _ _ _ | .csrrsi _ _ _ | .ecall | .ebreak
  | .fence _ _ _ _ _ | .fenceI _ _ _ | .mret | .wfi =>
    { early := [], late := [] }
  | .scW _ rs2 rs1 _ _ | .amoswapW _ rs2 rs1 _ _ | .amoaddW _ rs2 rs1 _ _ | .amoxorW _ rs2 rs1 _ _
  | .amoandW _ rs2 rs1 _ _ | .amoorW _ rs2 rs1 _ _ | .amominW _ rs2 rs1 _ _ | .amomaxW _ rs2 rs1 _ _
  | .amominuW _ rs2 rs1 _ _ | .amomaxuW _ rs2 rs1 _ _ =>
    { early := [rs1], late := [rs2] }
  -- no expansion is a 16-bit instruction
  | .cAddi4spn _ _ | .cLw _ _ _ | .cSw _ _ _ | .cNop _ | .cAddi _ _ | .cJal _ | .cLi _ _ | .cAddi16sp _
  | .cLui _ _ | .cSrli _ _ | .cSrai _ _ | .cAndi _ _ | .cSub _ _ | .cXor _ _ | .cOr _ _ | .cAnd _ _ | .cJ _
  | .cBeqz _ _ | .cBnez _ _ | .cSlli _ _ | .cLwsp _ _ | .cJr _ | .cMv _ _ | .cEbreak | .cJalr _ | .cAdd _ _
  | .cSwsp _ _ =>
    { early := [], late := [] }

/-- R412 and R419: the reads of an instruction, through its expansion. -/
def reads (j : Instr) : Reads := readsOf (expand j)

/-- `lr.w`, `sc.w` and the AMOs (R413). -/
def isExclusive : Instr → Bool
  | .lrW _ _ _ _ | .scW _ _ _ _ _ | .amoswapW _ _ _ _ _ | .amoaddW _ _ _ _ _ | .amoxorW _ _ _ _ _
  | .amoandW _ _ _ _ _ | .amoorW _ _ _ _ _ | .amominW _ _ _ _ _ | .amomaxW _ _ _ _ _ | .amominuW _ _ _ _ _
  | .amomaxuW _ _ _ _ _ => true
  | .add _ _ _ | .sub _ _ _ | .slt _ _ _ | .sltu _ _ _ | .and _ _ _ | .or _ _ _ | .xor _ _ _ | .sll _ _ _
  | .srl _ _ _ | .sra _ _ _ | .addi _ _ _ | .slti _ _ _ | .sltiu _ _ _ | .andi _ _ _ | .ori _ _ _ | .xori _ _ _
  | .slli _ _ _ | .srli _ _ _ | .srai _ _ _ | .lui _ _ | .auipc _ _ | .jal _ _ | .jalr _ _ _ | .beq _ _ _
  | .bne _ _ _ | .blt _ _ _ | .bge _ _ _ | .bltu _ _ _ | .bgeu _ _ _ | .lw _ _ _ | .lh _ _ _ | .lhu _ _ _
  | .lb _ _ _ | .lbu _ _ _ | .sw _ _ _ | .sh _ _ _ | .sb _ _ _ | .mul _ _ _ | .mulh _ _ _ | .mulhsu _ _ _
  | .mulhu _ _ _ | .div _ _ _ | .divu _ _ _ | .rem _ _ _ | .remu _ _ _ | .csrrw _ _ _ | .csrrc _ _ _
  | .csrrs _ _ _ | .csrrwi _ _ _ | .csrrci _ _ _ | .csrrsi _ _ _ | .ecall | .ebreak | .sh1add _ _ _
  | .sh2add _ _ _ | .sh3add _ _ _ | .andn _ _ _ | .clz _ _ | .cpop _ _ | .ctz _ _ | .max _ _ _ | .maxu _ _ _
  | .min _ _ _ | .minu _ _ _ | .orcB _ _ | .orn _ _ _ | .rev8 _ _ | .rol _ _ _ | .ror _ _ _ | .rori _ _ _
  | .sextB _ _ | .sextH _ _ | .xnor _ _ _ | .zextH _ _ | .clmul _ _ _ | .clmulh _ _ _ | .clmulr _ _ _
  | .bclr _ _ _ | .bclri _ _ _ | .bext _ _ _ | .bexti _ _ _ | .binv _ _ _ | .binvi _ _ _ | .bset _ _ _
  | .bseti _ _ _ | .fence _ _ _ _ _ | .fenceI _ _ _ | .mret | .wfi | .cAddi4spn _ _ | .cLw _ _ _ | .cSw _ _ _
  | .cNop _ | .cAddi _ _ | .cJal _ | .cLi _ _ | .cAddi16sp _ | .cLui _ _ | .cSrli _ _ | .cSrai _ _ | .cAndi _ _
  | .cSub _ _ | .cXor _ _ | .cOr _ _ | .cAnd _ _ | .cJ _ | .cBeqz _ _ | .cBnez _ _ | .cSlli _ _ | .cLwsp _ _
  | .cJr _ | .cMv _ _ | .cEbreak | .cJalr _ | .cAdd _ _ | .cSwsp _ _ => false

/-- `1 + d` (R412): `rd` is the register the instruction wrote, `j` the instruction executed next, if known. DESIGN
CHOICE: where it is not, the cost is between 1 and 2. (log 12) -/
def dependencyCost (rd : Reg) (j : Option Instr) : Cost :=
  if rd = 0 then .exactly 1
  else
    match j with
    | none => .between 1 2
    | some j =>
      if (reads j).early.contains rd then .exactly 2
      else if (reads j).late.contains rd then .between 1 2
      else .exactly 1

/-- `1 + max(d, e)` (R413, R420). -/
def exclusiveCost (rd : Reg) (j : Option Instr) : Cost :=
  match j with
  | none => .between 1 2
  | some j' => if isExclusive j' then .exactly 2 else dependencyCost rd j

/-- `unaligned(target)` (R414): the target is 2 modulo 4 and the parcel there has bits 1:0 = `0b11`. -/
def unalignedTarget (target : Word) (s : State) : Bool :=
  target.extractLsb 1 0 == 2#2 && (parcelAt target s).any isLong

/-- `2 + u` (R414, R417, R420), from the state at the target: `u` is 1 if the target is unaligned and else 0, so 0 where
there is no parcel. -/
def jumpCost (s : State) : Cost := .exactly (if unalignedTarget s.pc s then 3 else 2)

end Sys2Proof.Machine
end

