-- ==== Sys2Proof/Machine/Atomic.lean ====
section
/-! DEFINITION. A extension (44_a_extension.md; R61 to R66 in 20_memory.md). -/

namespace Sys2Proof.Machine

open Sys2Proof

/-- The end of an `sc.w` that raises nothing (R212): the local monitor cleared, 0 or 1 in `rd`. -/
def scDone (rd : Reg) (code : Word) (s : State) : State :=
  let t := advance 4 (writeReg rd code (s.setLm false))
  charge (exclusiveCost rd (nextInstr t)) t

/-- `sc.w` at an aligned address (R212): no access with the local monitor clear; else the global monitor answers, and
only an answer `ok` writes, or raises. An `sc.w` that raises does not clear the local monitor (R370). -/
def storeConditional (rd : Reg) (addr v : Word) (s : State) : State :=
  if !s.lm then scDone rd 1 s
  else
    match writeAnswer s with
    | .lost => scDone rd 1 (afterWriteAnswer s)
    | .ok =>
      match memWrite exclusiveWriteKinds 4 addr v (afterWriteAnswer s) with
      | .error e => takeTrap e (afterWriteAnswer s)
      | .ok t => scDone rd 0 t

/-- One attempt of an AMO, `old` read (R62): the read answered `refused` raises; the write answered `ok` writes
`op old src` and then `rd`, or raises; the write answered `lost` costs 4 cycles and changes nothing, and `retry` says
what comes then. The local monitor is neither read nor changed (R41). DESIGN CHOICE: the lost attempts before one that
raises are counted, 4 cycles each, and only what the trap adds is free (R415, R421). (log 35) -/
def amoAttempt (op : Word → Word → Word) (rd : Reg) (addr old src : Word) (retry : State → State) (s : State) : State :=
  match readAnswer s with
  | .refused => takeTrap (.storeAmoAccessFault addr) (afterReadAnswer s)
  | .granted =>
    let t := afterReadAnswer s
    match writeAnswer t with
    | .lost => retry (charge (.exactly 4) (afterWriteAnswer t))
    | .ok =>
      match memWrite exclusiveWriteKinds 4 addr (op old src) (afterWriteAnswer t) with
      | .error e => takeTrap e (afterWriteAnswer t)
      | .ok u => charge (.exactly 4) (advance 4 (writeReg rd old u))

/-- The loop of R62, at most `n + 1` attempts. When the last of them is lost the pc is still at the AMO, so the next
step makes the next attempt. (log 7) No attempt changes memory, so every attempt reads the same `old`. (log 8) -/
def amoAttempts (op : Word → Word → Word) (rd : Reg) (addr old src : Word) : Nat → State → State
  | 0 => amoAttempt op rd addr old src (fun t => t)
  | n + 1 => amoAttempt op rd addr old src (amoAttempts op rd addr old src n)

/-- `AMO(op, rd, rs1, rs2)` (R62, R415): alignment, the map and the value of the read, then the attempts, as many as
the state lists answers for and one more. (logs 7, 8, 10) -/
def amoOp (op : Word → Word → Word) (rd rs2 rs1 : Reg) (s : State) : Result :=
  match memRead .storeAmo exclusiveReadKinds 4 (readReg rs1 s) s with
  | .raises e => .next (takeTrap e s)
  | .faults f => .fault f
  | .value old => .next (amoAttempts op rd (readReg rs1 s) old (readReg rs2 s) s.monitorWrites.length s)

/-- R211. The value is loaded whatever the global monitor answers; the local monitor is set when it grants. `aq` and
`rl` change nothing (R66). -/
def execLrW (rd rs1 : Reg) (_aq _rl : Bool) (s : State) : Result :=
  match memRead .load exclusiveReadKinds 4 (readReg rs1 s) s with
  | .raises e => .next (takeTrap e s)
  | .faults f => .fault f
  | .value v =>
    let t := advance 4 (writeReg rd v ((afterReadAnswer s).setLm (decide (readAnswer s = .granted))))
    .next (charge (exclusiveCost rd (nextInstr t)) t)

/-- R212. -/
def execScW (rd rs2 rs1 : Reg) (_aq _rl : Bool) (s : State) : Result :=
  if !naturallyAligned 4 (readReg rs1 s) then .next (takeTrap (.storeAmoAddressMisaligned (readReg rs1 s)) s)
  else .next (storeConditional rd (readReg rs1 s) (readReg rs2 s) s)

/-- R213. -/
def execAmoswapW (rd rs2 rs1 : Reg) (_aq _rl : Bool) (s : State) : Result := amoOp (fun _ src => src) rd rs2 rs1 s

/-- R214. -/
def execAmoaddW (rd rs2 rs1 : Reg) (_aq _rl : Bool) (s : State) : Result :=
  amoOp (fun old src => old + src) rd rs2 rs1 s

/-- R215. -/
def execAmoxorW (rd rs2 rs1 : Reg) (_aq _rl : Bool) (s : State) : Result :=
  amoOp (fun old src => old ^^^ src) rd rs2 rs1 s

/-- R216. -/
def execAmoandW (rd rs2 rs1 : Reg) (_aq _rl : Bool) (s : State) : Result :=
  amoOp (fun old src => old &&& src) rd rs2 rs1 s

/-- R217. -/
def execAmoorW (rd rs2 rs1 : Reg) (_aq _rl : Bool) (s : State) : Result :=
  amoOp (fun old src => old ||| src) rd rs2 rs1 s

/-- R218. -/
def execAmominW (rd rs2 rs1 : Reg) (_aq _rl : Bool) (s : State) : Result := amoOp minSigned rd rs2 rs1 s

/-- R219. -/
def execAmomaxW (rd rs2 rs1 : Reg) (_aq _rl : Bool) (s : State) : Result := amoOp maxSigned rd rs2 rs1 s

/-- R220. -/
def execAmominuW (rd rs2 rs1 : Reg) (_aq _rl : Bool) (s : State) : Result := amoOp minUnsigned rd rs2 rs1 s

/-- R221. -/
def execAmomaxuW (rd rs2 rs1 : Reg) (_aq _rl : Bool) (s : State) : Result := amoOp maxUnsigned rd rs2 rs1 s

end Sys2Proof.Machine
end

