-- ==== Sys2Proof/Machine/BitManip.lean ====
section
/-! DEFINITION. Zba, Zbb, Zbc and Zbs (47_bitmanip_zba_zbb.md, 48_bitmanip_zbc_zbs.md). One cycle each (R300). -/

namespace Sys2Proof.Machine

open Sys2Proof

/-! ## Zba -/

/-- R301. -/
def execSh1add (rd rs1 rs2 : Reg) (s : State) : Result := compute 4 rd (shiftAdd 1 (readReg rs1 s) (readReg rs2 s)) s

/-- R302. -/
def execSh2add (rd rs1 rs2 : Reg) (s : State) : Result := compute 4 rd (shiftAdd 2 (readReg rs1 s) (readReg rs2 s)) s

/-- R303. -/
def execSh3add (rd rs1 rs2 : Reg) (s : State) : Result := compute 4 rd (shiftAdd 3 (readReg rs1 s) (readReg rs2 s)) s

/-! ## Zbb -/

/-- R304. -/
def execAndn (rd rs1 rs2 : Reg) (s : State) : Result := compute 4 rd (readReg rs1 s &&& ~~~readReg rs2 s) s

/-- R305. -/
def execClz (rd rs1 : Reg) (s : State) : Result := compute 4 rd (BitVec.ofNat 32 (clz32 (readReg rs1 s))) s

/-- R306. -/
def execCpop (rd rs1 : Reg) (s : State) : Result := compute 4 rd (BitVec.ofNat 32 (cpop32 (readReg rs1 s))) s

/-- R307. -/
def execCtz (rd rs1 : Reg) (s : State) : Result := compute 4 rd (BitVec.ofNat 32 (ctz32 (readReg rs1 s))) s

/-- R308. -/
def execMax (rd rs1 rs2 : Reg) (s : State) : Result := compute 4 rd (maxSigned (readReg rs1 s) (readReg rs2 s)) s

/-- R309. -/
def execMaxu (rd rs1 rs2 : Reg) (s : State) : Result := compute 4 rd (maxUnsigned (readReg rs1 s) (readReg rs2 s)) s

/-- R310. -/
def execMin (rd rs1 rs2 : Reg) (s : State) : Result := compute 4 rd (minSigned (readReg rs1 s) (readReg rs2 s)) s

/-- R311. -/
def execMinu (rd rs1 rs2 : Reg) (s : State) : Result := compute 4 rd (minUnsigned (readReg rs1 s) (readReg rs2 s)) s

/-- R312. -/
def execOrcB (rd rs1 : Reg) (s : State) : Result := compute 4 rd (orcBytes (readReg rs1 s)) s

/-- R313. -/
def execOrn (rd rs1 rs2 : Reg) (s : State) : Result := compute 4 rd (readReg rs1 s ||| ~~~readReg rs2 s) s

/-- R314. -/
def execRev8 (rd rs1 : Reg) (s : State) : Result := compute 4 rd (reverseBytes (readReg rs1 s)) s

/-- R315. -/
def execRol (rd rs1 rs2 : Reg) (s : State) : Result :=
  compute 4 rd (rol32 (readReg rs1 s) (lowFive (readReg rs2 s))) s

/-- R316. -/
def execRor (rd rs1 rs2 : Reg) (s : State) : Result :=
  compute 4 rd (ror32 (readReg rs1 s) (lowFive (readReg rs2 s))) s

/-- R317. -/
def execRori (rd rs1 : Reg) (shamt : BitVec 5) (s : State) : Result :=
  compute 4 rd (ror32 (readReg rs1 s) shamt.toNat) s

/-- R318. -/
def execSextB (rd rs1 : Reg) (s : State) : Result := compute 4 rd (sextByte (readReg rs1 s)) s

/-- R319. -/
def execSextH (rd rs1 : Reg) (s : State) : Result := compute 4 rd (sextHalf (readReg rs1 s)) s

/-- R320. -/
def execXnor (rd rs1 rs2 : Reg) (s : State) : Result := compute 4 rd (~~~(readReg rs1 s ^^^ readReg rs2 s)) s

/-- R321. -/
def execZextH (rd rs1 : Reg) (s : State) : Result := compute 4 rd (zextHalf (readReg rs1 s)) s

/-! ## Zbc -/

/-- R330. -/
def execClmul (rd rs1 rs2 : Reg) (s : State) : Result := compute 4 rd (clmulLow (readReg rs1 s) (readReg rs2 s)) s

/-- R331. -/
def execClmulh (rd rs1 rs2 : Reg) (s : State) : Result := compute 4 rd (clmulHigh (readReg rs1 s) (readReg rs2 s)) s

/-- R332. -/
def execClmulr (rd rs1 rs2 : Reg) (s : State) : Result :=
  compute 4 rd (clmulReversed (readReg rs1 s) (readReg rs2 s)) s

/-! ## Zbs; the bit index is the low five bits of `rs2`, or the immediate (R342) -/

/-- R333. -/
def execBclr (rd rs1 rs2 : Reg) (s : State) : Result :=
  compute 4 rd (bitClear (readReg rs1 s) (lowFive (readReg rs2 s))) s

/-- R334. -/
def execBclri (rd rs1 : Reg) (shamt : BitVec 5) (s : State) : Result :=
  compute 4 rd (bitClear (readReg rs1 s) shamt.toNat) s

/-- R335. -/
def execBext (rd rs1 rs2 : Reg) (s : State) : Result :=
  compute 4 rd (bitExtract (readReg rs1 s) (lowFive (readReg rs2 s))) s

/-- R336. -/
def execBexti (rd rs1 : Reg) (shamt : BitVec 5) (s : State) : Result :=
  compute 4 rd (bitExtract (readReg rs1 s) shamt.toNat) s

/-- R337. -/
def execBinv (rd rs1 rs2 : Reg) (s : State) : Result :=
  compute 4 rd (bitInvert (readReg rs1 s) (lowFive (readReg rs2 s))) s

/-- R338. -/
def execBinvi (rd rs1 : Reg) (shamt : BitVec 5) (s : State) : Result :=
  compute 4 rd (bitInvert (readReg rs1 s) shamt.toNat) s

/-- R339. -/
def execBset (rd rs1 rs2 : Reg) (s : State) : Result :=
  compute 4 rd (bitSet (readReg rs1 s) (lowFive (readReg rs2 s))) s

/-- R340. -/
def execBseti (rd rs1 : Reg) (shamt : BitVec 5) (s : State) : Result :=
  compute 4 rd (bitSet (readReg rs1 s) shamt.toNat) s

end Sys2Proof.Machine
end

