-- ==== Sys2Proof/Machine/Control.lean ====
section
/-! DEFINITION. RV32I, control transfer (41_rv32i_control_transfer.md). There are no delay slots (R158). -/

namespace Sys2Proof.Machine

open Sys2Proof

/-- `x[rd] <- pc + ilen; pc <- target` (R150, R151). The target is computed before `rd` is written. -/
def jump (ilen : Word) (rd : Reg) (target : Word) (s : State) : Result :=
  let t := (writeReg rd (s.pc + ilen) s).setPc target
  .next (charge (jumpCost t) t)

/-- `if taken then pc <- target else pc <- pc + ilen` (R152 to R157, R417). -/
def branch (ilen : Word) (taken : Bool) (target : Word) (s : State) : Result :=
  if taken then .next (charge (jumpCost (s.setPc target)) (s.setPc target))
  else .next (charge (.exactly 1) (advance ilen s))

/-- R150. -/
def execJal (rd : Reg) (offset : BitVec 21) (s : State) : Result := jump 4 rd (s.pc + sext offset) s

/-- R151. -/
def execJalr (rd rs1 : Reg) (imm : BitVec 12) (s : State) : Result :=
  jump 4 rd (clearBit0 (effectiveAddress (readReg rs1 s) (sext imm))) s

/-- R152. -/
def execBeq (rs1 rs2 : Reg) (offset : BitVec 13) (s : State) : Result :=
  branch 4 (readReg rs1 s == readReg rs2 s) (s.pc + sext offset) s

/-- R153. -/
def execBne (rs1 rs2 : Reg) (offset : BitVec 13) (s : State) : Result :=
  branch 4 (readReg rs1 s != readReg rs2 s) (s.pc + sext offset) s

/-- R154. -/
def execBlt (rs1 rs2 : Reg) (offset : BitVec 13) (s : State) : Result :=
  branch 4 (lessSigned (readReg rs1 s) (readReg rs2 s)) (s.pc + sext offset) s

/-- R155. -/
def execBge (rs1 rs2 : Reg) (offset : BitVec 13) (s : State) : Result :=
  branch 4 (!lessSigned (readReg rs1 s) (readReg rs2 s)) (s.pc + sext offset) s

/-- R156. -/
def execBltu (rs1 rs2 : Reg) (offset : BitVec 13) (s : State) : Result :=
  branch 4 (lessUnsigned (readReg rs1 s) (readReg rs2 s)) (s.pc + sext offset) s

/-- R157. -/
def execBgeu (rs1 rs2 : Reg) (offset : BitVec 13) (s : State) : Result :=
  branch 4 (!lessUnsigned (readReg rs1 s) (readReg rs2 s)) (s.pc + sext offset) s

end Sys2Proof.Machine
end

