-- ==== Sys2Proof/Machine/LoadStore.lean ====
section
/-! DEFINITION. RV32I, load and store (42_rv32i_load_store.md). -/

namespace Sys2Proof.Machine

open Sys2Proof

/-- A load of `n` bytes into `rd`, extended by `ext` (R170 to R175): the exception, the model's fault, or the value,
in 1 or 2 cycles (R412). -/
def loadOp (ilen : Word) (n : Nat) (ext : Word → Word) (rd : Reg) (addr : Word) (s : State) : Result :=
  match memRead .load [.read] n addr s with
  | .raises e => .next (takeTrap e s)
  | .faults f => .fault f
  | .value v =>
    let t := advance ilen (writeReg rd (ext v) s)
    .next (charge (dependencyCost rd (nextInstr t)) t)

/-- A store of the low `n` bytes of `v` (R170, R176 to R178), in 1 cycle (R411). -/
def storeOp (ilen : Word) (n : Nat) (addr v : Word) (s : State) : Result :=
  match memWrite [.write] n addr v s with
  | .error e => .next (takeTrap e s)
  | .ok t => .next (charge (.exactly 1) (advance ilen t))

/-- R171. -/
def execLw (rd : Reg) (imm : BitVec 12) (rs1 : Reg) (s : State) : Result :=
  loadOp 4 4 id rd (effectiveAddress (readReg rs1 s) (sext imm)) s

/-- R172. -/
def execLh (rd : Reg) (imm : BitVec 12) (rs1 : Reg) (s : State) : Result :=
  loadOp 4 2 sextHalf rd (effectiveAddress (readReg rs1 s) (sext imm)) s

/-- R173. -/
def execLhu (rd : Reg) (imm : BitVec 12) (rs1 : Reg) (s : State) : Result :=
  loadOp 4 2 zextHalf rd (effectiveAddress (readReg rs1 s) (sext imm)) s

/-- R174. -/
def execLb (rd : Reg) (imm : BitVec 12) (rs1 : Reg) (s : State) : Result :=
  loadOp 4 1 sextByte rd (effectiveAddress (readReg rs1 s) (sext imm)) s

/-- R175. -/
def execLbu (rd : Reg) (imm : BitVec 12) (rs1 : Reg) (s : State) : Result :=
  loadOp 4 1 zextByte rd (effectiveAddress (readReg rs1 s) (sext imm)) s

/-- R176. -/
def execSw (rs2 : Reg) (imm : BitVec 12) (rs1 : Reg) (s : State) : Result :=
  storeOp 4 4 (effectiveAddress (readReg rs1 s) (sext imm)) (readReg rs2 s) s

/-- R177. -/
def execSh (rs2 : Reg) (imm : BitVec 12) (rs1 : Reg) (s : State) : Result :=
  storeOp 4 2 (effectiveAddress (readReg rs1 s) (sext imm)) (readReg rs2 s) s

/-- R178. -/
def execSb (rs2 : Reg) (imm : BitVec 12) (rs1 : Reg) (s : State) : Result :=
  storeOp 4 1 (effectiveAddress (readReg rs1 s) (sext imm)) (readReg rs2 s) s

end Sys2Proof.Machine
end

