-- ==== Sys2Proof/Machine/Compressed.lean ====
section
/-! DEFINITION. C extension (45_c_extension.md): each is its expansion with length 2 (R242). -/

namespace Sys2Proof.Machine

open Sys2Proof

/-- R243. -/
def execCAddi4spn (rd' : Reg) (nzuimm : BitVec 10) (s : State) : Result := compute 2 rd' (readReg 2 s + zext nzuimm) s

/-- R244. -/
def execCLw (rd' : Reg) (uimm : BitVec 7) (rs1' : Reg) (s : State) : Result :=
  loadOp 2 4 id rd' (effectiveAddress (readReg rs1' s) (zext uimm)) s

/-- R245. -/
def execCSw (rs2' : Reg) (uimm : BitVec 7) (rs1' : Reg) (s : State) : Result :=
  storeOp 2 4 (effectiveAddress (readReg rs1' s) (zext uimm)) (readReg rs2' s) s

/-- R246. -/
def execCNop (_imm : BitVec 6) (s : State) : Result := compute 2 0 0 s

/-- R247. -/
def execCAddi (rd : Reg) (imm : BitVec 6) (s : State) : Result := compute 2 rd (readReg rd s + sext imm) s

/-- R248. -/
def execCJal (offset : BitVec 12) (s : State) : Result := jump 2 1 (s.pc + sext offset) s

/-- R249. -/
def execCLi (rd : Reg) (imm : BitVec 6) (s : State) : Result := compute 2 rd (sext imm) s

/-- R250. -/
def execCAddi16sp (nzimm : BitVec 10) (s : State) : Result := compute 2 2 (readReg 2 s + sext nzimm) s

/-- R251. -/
def execCLui (rd : Reg) (nzimm : BitVec 6) (s : State) : Result := compute 2 rd (upperImm (cLuiImm nzimm)) s

/-- R252. -/
def execCSrli (rd' : Reg) (shamt : BitVec 5) (s : State) : Result :=
  compute 2 rd' (shiftRightLogical (readReg rd' s) shamt.toNat) s

/-- R253. -/
def execCSrai (rd' : Reg) (shamt : BitVec 5) (s : State) : Result :=
  compute 2 rd' (shiftRightArith (readReg rd' s) shamt.toNat) s

/-- R254. -/
def execCAndi (rd' : Reg) (imm : BitVec 6) (s : State) : Result := compute 2 rd' (readReg rd' s &&& sext imm) s

/-- R255. -/
def execCSub (rd' rs2' : Reg) (s : State) : Result := compute 2 rd' (readReg rd' s - readReg rs2' s) s

/-- R256. -/
def execCXor (rd' rs2' : Reg) (s : State) : Result := compute 2 rd' (readReg rd' s ^^^ readReg rs2' s) s

/-- R257. -/
def execCOr (rd' rs2' : Reg) (s : State) : Result := compute 2 rd' (readReg rd' s ||| readReg rs2' s) s

/-- R258. -/
def execCAnd (rd' rs2' : Reg) (s : State) : Result := compute 2 rd' (readReg rd' s &&& readReg rs2' s) s

/-- R259. -/
def execCJ (offset : BitVec 12) (s : State) : Result := jump 2 0 (s.pc + sext offset) s

/-- R260. -/
def execCBeqz (rs1' : Reg) (offset : BitVec 9) (s : State) : Result :=
  branch 2 (readReg rs1' s == 0) (s.pc + sext offset) s

/-- R261. -/
def execCBnez (rs1' : Reg) (offset : BitVec 9) (s : State) : Result :=
  branch 2 (readReg rs1' s != 0) (s.pc + sext offset) s

/-- R262. -/
def execCSlli (rd : Reg) (shamt : BitVec 5) (s : State) : Result :=
  compute 2 rd (shiftLeft (readReg rd s) shamt.toNat) s

/-- R263. -/
def execCLwsp (rd : Reg) (uimm : BitVec 8) (s : State) : Result :=
  loadOp 2 4 id rd (effectiveAddress (readReg 2 s) (zext uimm)) s

/-- R264. -/
def execCJr (rs1 : Reg) (s : State) : Result := jump 2 0 (clearBit0 (readReg rs1 s)) s

/-- R265. -/
def execCMv (rd rs2 : Reg) (s : State) : Result := compute 2 rd (readReg rs2 s) s

/-- R266. -/
def execCEbreak (s : State) : Result := .next (takeTrap .breakpoint s)

/-- R267. -/
def execCJalr (rs1 : Reg) (s : State) : Result := jump 2 1 (clearBit0 (readReg rs1 s)) s

/-- R268. -/
def execCAdd (rd rs2 : Reg) (s : State) : Result := compute 2 rd (readReg rd s + readReg rs2 s) s

/-- R269. -/
def execCSwsp (rs2 : Reg) (uimm : BitVec 8) (s : State) : Result :=
  storeOp 2 4 (effectiveAddress (readReg 2 s) (zext uimm)) (readReg rs2 s) s

end Sys2Proof.Machine
end

