-- ==== Sys2Proof/Machine/Integer.lean ====
section
/-! DEFINITION. RV32I, integer computation (40_rv32i_integer.md). One cycle each (R120). -/

namespace Sys2Proof.Machine

open Sys2Proof

/-! ## Register-register -/

/-- R121. -/
def execAdd (rd rs1 rs2 : Reg) (s : State) : Result := compute 4 rd (readReg rs1 s + readReg rs2 s) s

/-- R122. -/
def execSub (rd rs1 rs2 : Reg) (s : State) : Result := compute 4 rd (readReg rs1 s - readReg rs2 s) s

/-- R123. -/
def execSlt (rd rs1 rs2 : Reg) (s : State) : Result := compute 4 rd (setLessSigned (readReg rs1 s) (readReg rs2 s)) s

/-- R124. -/
def execSltu (rd rs1 rs2 : Reg) (s : State) : Result :=
  compute 4 rd (setLessUnsigned (readReg rs1 s) (readReg rs2 s)) s

/-- R125. -/
def execAnd (rd rs1 rs2 : Reg) (s : State) : Result := compute 4 rd (readReg rs1 s &&& readReg rs2 s) s

/-- R126. -/
def execOr (rd rs1 rs2 : Reg) (s : State) : Result := compute 4 rd (readReg rs1 s ||| readReg rs2 s) s

/-- R127. -/
def execXor (rd rs1 rs2 : Reg) (s : State) : Result := compute 4 rd (readReg rs1 s ^^^ readReg rs2 s) s

/-- R128. -/
def execSll (rd rs1 rs2 : Reg) (s : State) : Result :=
  compute 4 rd (shiftLeft (readReg rs1 s) (lowFive (readReg rs2 s))) s

/-- R129. -/
def execSrl (rd rs1 rs2 : Reg) (s : State) : Result :=
  compute 4 rd (shiftRightLogical (readReg rs1 s) (lowFive (readReg rs2 s))) s

/-- R130. -/
def execSra (rd rs1 rs2 : Reg) (s : State) : Result :=
  compute 4 rd (shiftRightArith (readReg rs1 s) (lowFive (readReg rs2 s))) s

/-! ## Register-immediate; the 12-bit immediate is sign-extended in all of them (R142(c)) -/

/-- R131. -/
def execAddi (rd rs1 : Reg) (imm : BitVec 12) (s : State) : Result := compute 4 rd (readReg rs1 s + sext imm) s

/-- R132. -/
def execSlti (rd rs1 : Reg) (imm : BitVec 12) (s : State) : Result :=
  compute 4 rd (setLessSigned (readReg rs1 s) (sext imm)) s

/-- R133. -/
def execSltiu (rd rs1 : Reg) (imm : BitVec 12) (s : State) : Result :=
  compute 4 rd (setLessUnsigned (readReg rs1 s) (sext imm)) s

/-- R134. -/
def execAndi (rd rs1 : Reg) (imm : BitVec 12) (s : State) : Result := compute 4 rd (readReg rs1 s &&& sext imm) s

/-- R135. -/
def execOri (rd rs1 : Reg) (imm : BitVec 12) (s : State) : Result := compute 4 rd (readReg rs1 s ||| sext imm) s

/-- R136. -/
def execXori (rd rs1 : Reg) (imm : BitVec 12) (s : State) : Result := compute 4 rd (readReg rs1 s ^^^ sext imm) s

/-- R137. -/
def execSlli (rd rs1 : Reg) (shamt : BitVec 5) (s : State) : Result :=
  compute 4 rd (shiftLeft (readReg rs1 s) shamt.toNat) s

/-- R138. -/
def execSrli (rd rs1 : Reg) (shamt : BitVec 5) (s : State) : Result :=
  compute 4 rd (shiftRightLogical (readReg rs1 s) shamt.toNat) s

/-- R139. -/
def execSrai (rd rs1 : Reg) (shamt : BitVec 5) (s : State) : Result :=
  compute 4 rd (shiftRightArith (readReg rs1 s) shamt.toNat) s

/-! ## Large immediate -/

/-- R140. -/
def execLui (rd : Reg) (imm : BitVec 20) (s : State) : Result := compute 4 rd (upperImm imm) s

/-- R141. The pc is the address of the `auipc` itself. -/
def execAuipc (rd : Reg) (imm : BitVec 20) (s : State) : Result := compute 4 rd (s.pc + upperImm imm) s

end Sys2Proof.Machine
end

