-- ==== Sys2Proof/Machine/MulDiv.lean ====
section
/-! DEFINITION. M extension (43_m_extension.md). The cycle counts are those of R416. -/

namespace Sys2Proof.Machine

open Sys2Proof

/-- `mul` waits for nothing, but the instruction after it may wait for its result (R190, R412). -/
def multiply (rd : Reg) (v : Word) (s : State) : Result :=
  writeBack 4 (dependencyCost rd (nextInstr (advance 4 (writeReg rd v s)))) rd v s

/-- R190. -/
def execMul (rd rs1 rs2 : Reg) (s : State) : Result := multiply rd (mulLow (readReg rs1 s) (readReg rs2 s)) s

/-- R191. The count depends on sign correction, unstated (R416). -/
def execMulh (rd rs1 rs2 : Reg) (s : State) : Result :=
  writeBack 4 (.between 18 20) rd (mulHighSigned (readReg rs1 s) (readReg rs2 s)) s

/-- R192. -/
def execMulhsu (rd rs1 rs2 : Reg) (s : State) : Result :=
  writeBack 4 (.between 18 20) rd (mulHighMixed (readReg rs1 s) (readReg rs2 s)) s

/-- R193. -/
def execMulhu (rd rs1 rs2 : Reg) (s : State) : Result :=
  writeBack 4 (.exactly 18) rd (mulHighUnsigned (readReg rs1 s) (readReg rs2 s)) s

/-- R194. -/
def execDiv (rd rs1 rs2 : Reg) (s : State) : Result :=
  writeBack 4 (.between 18 19) rd (divSigned (readReg rs1 s) (readReg rs2 s)) s

/-- R195. -/
def execDivu (rd rs1 rs2 : Reg) (s : State) : Result :=
  writeBack 4 (.exactly 18) rd (divUnsigned (readReg rs1 s) (readReg rs2 s)) s

/-- R196. -/
def execRem (rd rs1 rs2 : Reg) (s : State) : Result :=
  writeBack 4 (.between 18 19) rd (remSigned (readReg rs1 s) (readReg rs2 s)) s

/-- R197. -/
def execRemu (rd rs1 rs2 : Reg) (s : State) : Result :=
  writeBack 4 (.exactly 18) rd (remUnsigned (readReg rs1 s) (readReg rs2 s)) s

end Sys2Proof.Machine
end

