-- ==== Sys2Proof/Machine/System.lean ====
section
/-! DEFINITION. `fence`, `fence.i`, `mret` and `wfi` (49_unlisted_fence_mret_wfi.md). Their cycle counts are not in the source (R421). -/

namespace Sys2Proof.Machine

open Sys2Proof

/-- R350: under R65 there is nothing to order. `fm`, `pred`, `succ`, `rs1` and `rd` are ignored. -/
def execFence (_fm _pred _succ : BitVec 4) (_rs1 _rd : Reg) (s : State) : Result := .next (charge .unknown (advance 4 s))

/-- R351: it empties the set of bytes stored to. -/
def execFenceI (_imm : BitVec 12) (_rs1 _rd : Reg) (s : State) : Result :=
  .next (charge .unknown (advance 4 (s.setStoredSinceFenceI [])))

/-- R352. -/
def execMret (s : State) : Result := .next (charge .unknown (returnFromTrap s))

/-- R353: a no-operation. -/
def execWfi (s : State) : Result := .next (charge .unknown (advance 4 s))

end Sys2Proof.Machine
end

