-- ==== Sys2Proof/Machine/Zicsr.lean ====
section
/-! DEFINITION. CSR access and trap request (46_zicsr_privileged.md). -/

namespace Sys2Proof.Machine

open Sys2Proof

/-- `if rd != 0: t <- CsrRead(csr); CsrWrite(csr, v); if rd != 0: x[rd] <- t; pc <- pc + 4` (R281, R284). A register
that is none of the six is refused first (R280). (log 13) -/
def csrSwap (rd : Reg) (csr : BitVec 12) (v : Word) (s : State) : Result :=
  match csrOf csr with
  | none => .refused (.unknownCsr csr)
  | some c =>
    if rd = 0 then .next (charge (.exactly 1) (advance 4 (csrWrite c v s)))
    else compute 4 rd (csrValue c s) (csrWrite c v (afterCsrRead c s))

/-- `t <- CsrRead(csr); if writes: CsrWrite(csr, f(t)); x[rd] <- t; pc <- pc + 4` (R282, R283, R285, R286). (log 13) -/
def csrModify (rd : Reg) (csr : BitVec 12) (writes : Bool) (f : Word → Word) (s : State) : Result :=
  match csrOf csr with
  | none => .refused (.unknownCsr csr)
  | some c =>
    compute 4 rd (csrValue c s) (if writes then csrWrite c (f (csrValue c s)) (afterCsrRead c s) else afterCsrRead c s)

/-- R281. -/
def execCsrrw (rd : Reg) (csr : BitVec 12) (rs1 : Reg) (s : State) : Result := csrSwap rd csr (readReg rs1 s) s

/-- R282. It writes unless the register number is 0. -/
def execCsrrc (rd : Reg) (csr : BitVec 12) (rs1 : Reg) (s : State) : Result :=
  csrModify rd csr (rs1 != 0) (fun t => t &&& ~~~readReg rs1 s) s

/-- R283. -/
def execCsrrs (rd : Reg) (csr : BitVec 12) (rs1 : Reg) (s : State) : Result :=
  csrModify rd csr (rs1 != 0) (fun t => t ||| readReg rs1 s) s

/-- R284. -/
def execCsrrwi (rd : Reg) (csr : BitVec 12) (uimm : BitVec 5) (s : State) : Result := csrSwap rd csr (zext uimm) s

/-- R285. -/
def execCsrrci (rd : Reg) (csr : BitVec 12) (uimm : BitVec 5) (s : State) : Result :=
  csrModify rd csr (uimm != 0) (fun t => t &&& ~~~zext uimm) s

/-- R286. -/
def execCsrrsi (rd : Reg) (csr : BitVec 12) (uimm : BitVec 5) (s : State) : Result :=
  csrModify rd csr (uimm != 0) (fun t => t ||| zext uimm) s

/-- R287. -/
def execEcall (s : State) : Result := .next (takeTrap .environmentCallFromMMode s)

/-- R288. It always traps (R384). -/
def execEbreak (s : State) : Result := .next (takeTrap .breakpoint s)

end Sys2Proof.Machine
end

