-- ==== Sys2Proof/Machine/Step.lean ====
section
/-! DEFINITION. One step: fetch, decode, execute, raising at the first that raises (R369 in 60_exceptions.md). The step
adds nothing around `exec`: each meaning sets the pc and charges its cycles. -/

namespace Sys2Proof.Machine

open Sys2Proof

/-- One step of the machine. -/
def step (s : State) : Host.Outcome State Fault Refusal :=
  match fetchInstr s with
  | .raises e => .next (takeTrap e s)
  | .refuses r => .refused r
  | .faults f => .fault f
  | .got i => exec i s

/-- The state with a table word stored where the next fetch finds it: at the pc. (log 24) -/
def State.withFetchWord (s : State) (nbits w : Nat) : State := placeAtPc (tableBytes nbits w) s

end Sys2Proof.Machine
end

