-- ==== Sys2Proof/Safety.lean ====
section
/-! DEFINITION. What counts as a safe run, in the terms claims use: the invariant of reachable states, when a step goes
on, and when a run is over (R26, R32 in 10_state.md, R403 in 70_reset_and_hazards.md); and the vocabulary the
obligations are written in: what an instruction reads and writes, what a step changed and what it left alone. -/

namespace Sys2Proof.Machine

open Sys2Proof

/-- What holds of every state a run reaches: the pc is a multiple of 2 (R26), bit 0 of `mepc` is 0 (R32), memory and the
set of stored bytes are in canonical form, and every byte stored to holds a value (R46). -/
structure State.Inv (s : State) : Prop where
  pcEven : s.pc.getLsbD 0 = false
  mepcEven : s.mepc.getLsbD 0 = false
  memWf : s.mem.wf
  storedWf : s.storedSinceFenceI.wf
  storedHoldsValue : ∀ a ∈ s.storedSinceFenceI, (s.mem.read a).isSome

/-- A launch a run may start from (R401, R45, R50): an even reset vector, `MTVEC_INIT` with bit 1 clear, an image in
canonical form. -/
structure LaunchOk (l : Launch) : Prop where
  resetVectorEven : l.resetVector.getLsbD 0 = false
  mtvecBit1Clear : l.mtvecInit.getLsbD 1 = false
  imageWf : Memory.wf l.image

/-- The step from here gives a next state: neither the model's fault nor a refusal (R362). -/
def GoesOn (s : State) : Prop := ∃ t, step s = .next t

/-- The state after `n` steps, if every one of them goes on. -/
def stepsTo : Nat → State → State → Prop
  | 0, s, t => s = t
  | n + 1, s, t => ∃ u, step s = .next u ∧ stepsTo n u t

/-- How a run stands when looked at. -/
inductive RunResult where
  /-- The pc reached `END_PC`; the state is the end state. -/
  | ended (s : State)
  /-- The steps looked at are used up. -/
  | running (s : State)
  | faulted (f : Fault)
  | refused (r : Refusal)
  deriving Repr

/-- A run of at most `n` steps: over when `pc = END_PC`, before the instruction there is fetched (R403). (log 27) -/
def runTo (endPc : Word) : Nat → State → RunResult
  | 0, s => if s.pc = endPc then .ended s else .running s
  | n + 1, s =>
    if s.pc = endPc then .ended s
    else
      match step s with
      | .next t => runTo endPc n t
      | .fault f => .faulted f
      | .refused r => .refused r

/-- A run from `s` ends at `END_PC` with this end state. -/
def EndsWith (endPc : Word) (s t : State) : Prop := ∃ n, runTo endPc n s = .ended t

/-- The premise of R222 that the global monitor grants every exclusive read and answers every exclusive write `ok`, for
the answers the state lists. -/
def MonitorGrants (s : State) : Prop := (∀ g ∈ s.monitorReads, g = .granted) ∧ (∀ g ∈ s.monitorWrites, g = .ok)

/-! ## What an instruction may touch -/

/-- What kind of effect an instruction has. -/
inductive InstrClass where
  | compute | transfer | load | store | loadReserved | storeConditional | amo | csr | trapRequest | fence | fenceI
  | mret | wfi
  deriving DecidableEq, Repr

/-- The kind of each instruction (files 40 to 49). -/
def classOf : Instr → InstrClass
  | .add _ _ _ | .sub _ _ _ | .slt _ _ _ | .sltu _ _ _ | .and _ _ _ | .or _ _ _ | .xor _ _ _ | .sll _ _ _
  | .srl _ _ _ | .sra _ _ _ | .addi _ _ _ | .slti _ _ _ | .sltiu _ _ _ | .andi _ _ _ | .ori _ _ _ | .xori _ _ _
  | .slli _ _ _ | .srli _ _ _ | .srai _ _ _ | .lui _ _ | .auipc _ _ | .mul _ _ _ | .mulh _ _ _ | .mulhsu _ _ _
  | .mulhu _ _ _ | .div _ _ _ | .divu _ _ _ | .rem _ _ _ | .remu _ _ _ | .sh1add _ _ _ | .sh2add _ _ _
  | .sh3add _ _ _ | .andn _ _ _ | .clz _ _ | .cpop _ _ | .ctz _ _ | .max _ _ _ | .maxu _ _ _ | .min _ _ _
  | .minu _ _ _ | .orcB _ _ | .orn _ _ _ | .rev8 _ _ | .rol _ _ _ | .ror _ _ _ | .rori _ _ _ | .sextB _ _
  | .sextH _ _ | .xnor _ _ _ | .zextH _ _ | .clmul _ _ _ | .clmulh _ _ _ | .clmulr _ _ _ | .bclr _ _ _
  | .bclri _ _ _ | .bext _ _ _ | .bexti _ _ _ | .binv _ _ _ | .binvi _ _ _ | .bset _ _ _ | .bseti _ _ _
  | .cAddi4spn _ _ | .cNop _ | .cAddi _ _ | .cLi _ _ | .cAddi16sp _ | .cLui _ _ | .cSrli _ _ | .cSrai _ _
  | .cAndi _ _ | .cSub _ _ | .cXor _ _ | .cOr _ _ | .cAnd _ _ | .cSlli _ _ | .cMv _ _ | .cAdd _ _ => .compute
  | .jal _ _ | .jalr _ _ _ | .beq _ _ _ | .bne _ _ _ | .blt _ _ _ | .bge _ _ _ | .bltu _ _ _ | .bgeu _ _ _
  | .cJal _ | .cJ _ | .cBeqz _ _ | .cBnez _ _ | .cJr _ | .cJalr _ => .transfer
  | .lw _ _ _ | .lh _ _ _ | .lhu _ _ _ | .lb _ _ _ | .lbu _ _ _ | .cLw _ _ _ | .cLwsp _ _ => .load
  | .sw _ _ _ | .sh _ _ _ | .sb _ _ _ | .cSw _ _ _ | .cSwsp _ _ => .store
  | .lrW _ _ _ _ => .loadReserved
  | .scW _ _ _ _ _ => .storeConditional
  | .amoswapW _ _ _ _ _ | .amoaddW _ _ _ _ _ | .amoxorW _ _ _ _ _ | .amoandW _ _ _ _ _ | .amoorW _ _ _ _ _
  | .amominW _ _ _ _ _ | .amomaxW _ _ _ _ _ | .amominuW _ _ _ _ _ | .amomaxuW _ _ _ _ _ => .amo
  | .csrrw _ _ _ | .csrrc _ _ _ | .csrrs _ _ _ | .csrrwi _ _ _ | .csrrci _ _ _ | .csrrsi _ _ _ => .csr
  | .ecall | .ebreak | .cEbreak => .trapRequest
  | .fence _ _ _ _ _ => .fence
  | .fenceI _ _ _ => .fenceI
  | .mret => .mret
  | .wfi => .wfi

/-- The register an instruction writes: the one its syntax names `rd`, or the one a 16-bit instruction's expansion does
(R22 in 10_state.md; R248, R250, R267 in 45_c_extension.md). -/
def destination : Instr → Option Reg
  | .add rd _ _ | .sub rd _ _ | .slt rd _ _ | .sltu rd _ _ | .and rd _ _ | .or rd _ _ | .xor rd _ _
  | .sll rd _ _ | .srl rd _ _ | .sra rd _ _ | .addi rd _ _ | .slti rd _ _ | .sltiu rd _ _ | .andi rd _ _
  | .ori rd _ _ | .xori rd _ _ | .slli rd _ _ | .srli rd _ _ | .srai rd _ _ | .lui rd _ | .auipc rd _
  | .jal rd _ | .jalr rd _ _ | .lw rd _ _ | .lh rd _ _ | .lhu rd _ _ | .lb rd _ _ | .lbu rd _ _ | .mul rd _ _
  | .mulh rd _ _ | .mulhsu rd _ _ | .mulhu rd _ _ | .div rd _ _ | .divu rd _ _ | .rem rd _ _ | .remu rd _ _
  | .lrW rd _ _ _ | .scW rd _ _ _ _ | .amoswapW rd _ _ _ _ | .amoaddW rd _ _ _ _ | .amoxorW rd _ _ _ _
  | .amoandW rd _ _ _ _ | .amoorW rd _ _ _ _ | .amominW rd _ _ _ _ | .amomaxW rd _ _ _ _ | .amominuW rd _ _ _ _
  | .amomaxuW rd _ _ _ _ | .csrrw rd _ _ | .csrrc rd _ _ | .csrrs rd _ _ | .csrrwi rd _ _ | .csrrci rd _ _
  | .csrrsi rd _ _ | .sh1add rd _ _ | .sh2add rd _ _ | .sh3add rd _ _ | .andn rd _ _ | .clz rd _ | .cpop rd _
  | .ctz rd _ | .max rd _ _ | .maxu rd _ _ | .min rd _ _ | .minu rd _ _ | .orcB rd _ | .orn rd _ _ | .rev8 rd _
  | .rol rd _ _ | .ror rd _ _ | .rori rd _ _ | .sextB rd _ | .sextH rd _ | .xnor rd _ _ | .zextH rd _
  | .clmul rd _ _ | .clmulh rd _ _ | .clmulr rd _ _ | .bclr rd _ _ | .bclri rd _ _ | .bext rd _ _
  | .bexti rd _ _ | .binv rd _ _ | .binvi rd _ _ | .bset rd _ _ | .bseti rd _ _ | .cAddi rd _ | .cLi rd _
  | .cLui rd _ | .cSlli rd _ | .cLwsp rd _ | .cMv rd _ | .cAdd rd _ => some rd
  | .cAddi4spn rd' _ | .cLw rd' _ _ | .cSrli rd' _ | .cSrai rd' _ | .cAndi rd' _ | .cSub rd' _ | .cXor rd' _
  | .cOr rd' _ | .cAnd rd' _ => some rd'
  | .cJal _ | .cJalr _ => some 1
  | .cAddi16sp _ => some 2
  | .beq _ _ _ | .bne _ _ _ | .blt _ _ _ | .bge _ _ _ | .bltu _ _ _ | .bgeu _ _ _ | .sw _ _ _ | .sh _ _ _
  | .sb _ _ _ | .ecall | .ebreak | .fence _ _ _ _ _ | .fenceI _ _ _ | .mret | .wfi | .cSw _ _ _ | .cNop _
  | .cJ _ | .cBeqz _ _ | .cBnez _ _ | .cJr _ | .cEbreak | .cSwsp _ _ => none

/-- The registers an instruction reads: those its syntax, or a 16-bit instruction's expansion, names `rs1` and `rs2`
(R22 in 10_state.md; R243 to R269 in 45_c_extension.md). -/
def sources : Instr → List Reg
  | .add _ rs1 rs2 | .sub _ rs1 rs2 | .slt _ rs1 rs2 | .sltu _ rs1 rs2 | .and _ rs1 rs2 | .or _ rs1 rs2
  | .xor _ rs1 rs2 | .sll _ rs1 rs2 | .srl _ rs1 rs2 | .sra _ rs1 rs2 | .beq rs1 rs2 _ | .bne rs1 rs2 _
  | .blt rs1 rs2 _ | .bge rs1 rs2 _ | .bltu rs1 rs2 _ | .bgeu rs1 rs2 _ | .sw rs2 _ rs1 | .sh rs2 _ rs1
  | .sb rs2 _ rs1 | .mul _ rs1 rs2 | .mulh _ rs1 rs2 | .mulhsu _ rs1 rs2 | .mulhu _ rs1 rs2 | .div _ rs1 rs2
  | .divu _ rs1 rs2 | .rem _ rs1 rs2 | .remu _ rs1 rs2 | .scW _ rs2 rs1 _ _ | .amoswapW _ rs2 rs1 _ _
  | .amoaddW _ rs2 rs1 _ _ | .amoxorW _ rs2 rs1 _ _ | .amoandW _ rs2 rs1 _ _ | .amoorW _ rs2 rs1 _ _
  | .amominW _ rs2 rs1 _ _ | .amomaxW _ rs2 rs1 _ _ | .amominuW _ rs2 rs1 _ _ | .amomaxuW _ rs2 rs1 _ _
  | .sh1add _ rs1 rs2 | .sh2add _ rs1 rs2 | .sh3add _ rs1 rs2 | .andn _ rs1 rs2 | .max _ rs1 rs2
  | .maxu _ rs1 rs2 | .min _ rs1 rs2 | .minu _ rs1 rs2 | .orn _ rs1 rs2 | .rol _ rs1 rs2 | .ror _ rs1 rs2
  | .xnor _ rs1 rs2 | .clmul _ rs1 rs2 | .clmulh _ rs1 rs2 | .clmulr _ rs1 rs2 | .bclr _ rs1 rs2
  | .bext _ rs1 rs2 | .binv _ rs1 rs2 | .bset _ rs1 rs2 => [rs1, rs2]
  | .addi _ rs1 _ | .slti _ rs1 _ | .sltiu _ rs1 _ | .andi _ rs1 _ | .ori _ rs1 _ | .xori _ rs1 _
  | .slli _ rs1 _ | .srli _ rs1 _ | .srai _ rs1 _ | .jalr _ rs1 _ | .lw _ _ rs1 | .lh _ _ rs1 | .lhu _ _ rs1
  | .lb _ _ rs1 | .lbu _ _ rs1 | .lrW _ rs1 _ _ | .csrrw _ _ rs1 | .csrrc _ _ rs1 | .csrrs _ _ rs1 | .clz _ rs1
  | .cpop _ rs1 | .ctz _ rs1 | .orcB _ rs1 | .rev8 _ rs1 | .rori _ rs1 _ | .sextB _ rs1 | .sextH _ rs1
  | .zextH _ rs1 | .bclri _ rs1 _ | .bexti _ rs1 _ | .binvi _ rs1 _ | .bseti _ rs1 _ | .cJr rs1 | .cJalr rs1 =>
    [rs1]
  | .lui _ _ | .auipc _ _ | .jal _ _ | .csrrwi _ _ _ | .csrrci _ _ _ | .csrrsi _ _ _ | .ecall | .ebreak
  | .fence _ _ _ _ _ | .fenceI _ _ _ | .mret | .wfi | .cNop _ | .cJal _ | .cLi _ _ | .cLui _ _ | .cJ _
  | .cEbreak => []
  | .cAddi4spn _ _ | .cAddi16sp _ | .cLwsp _ _ => [2]
  | .cLw _ _ rs1' | .cBeqz rs1' _ | .cBnez rs1' _ => [rs1']
  | .cSw rs2' _ rs1' => [rs1', rs2']
  | .cAddi rd _ | .cSlli rd _ => [rd]
  | .cSrli rd' _ | .cSrai rd' _ | .cAndi rd' _ => [rd']
  | .cSub rd' rs2' | .cXor rd' rs2' | .cOr rd' rs2' | .cAnd rd' rs2' => [rd', rs2']
  | .cMv _ rs2 => [rs2]
  | .cAdd rd rs2 => [rd, rs2]
  | .cSwsp rs2 _ => [2, rs2]

/-! ## What a step leaves as it was -/

/-- Every general register outside the list holds what it held. -/
def KeepsRegs (but : List Reg) (s t : State) : Prop := ∀ r, r ∉ but → readReg r t = readReg r s

/-- The six control and status registers hold what they held. -/
structure KeepsCsrs (s t : State) : Prop where
  mstatus : t.mstatus = s.mstatus
  mtvec : t.mtvec = s.mtvec
  mscratch : t.mscratch = s.mscratch
  mepc : t.mepc = s.mepc
  mcause : t.mcause = s.mcause
  mtval : t.mtval = s.mtval

/-- The local monitor is as it was, and the global monitor was not asked. -/
structure KeepsMonitors (s t : State) : Prop where
  lm : t.lm = s.lm
  reads : t.monitorReads = s.monitorReads
  writes : t.monitorWrites = s.monitorWrites

/-- Every byte of memory, its map, and the set of bytes stored to are as they were. -/
structure KeepsMemory (s t : State) : Prop where
  bytes : ∀ a, t.mem.read a = s.mem.read a
  stored : t.storedSinceFenceI = s.storedSinceFenceI
  map : t.memMap = s.memMap

/-- Everything but the pc, the cycle count and the listed general registers is as it was. -/
structure KeepsAllBut (but : List Reg) (s t : State) : Prop where
  regs : KeepsRegs but s t
  csrs : KeepsCsrs s t
  monitors : KeepsMonitors s t
  memory : KeepsMemory s t

/-! ## What a step did -/

/-- The instruction completes from this state, and the next state is as said. -/
def Does (i : Instr) (s : State) (p : State → Prop) : Prop := ∃ t, exec i s = .next t ∧ p t

/-- The step was charged `lo` to `hi` cycles. -/
def Took (lo hi : Nat) (s t : State) : Prop := s.cycles + lo ≤ t.cycles ∧ t.cycles ≤ s.cycles + hi

/-- `x[rd] <- v` took place: `rd` holds `v`, unless it is `x0`, which still reads 0 (R20). -/
def Wrote (rd : Reg) (v : Word) (t : State) : Prop := readReg rd t = if rd = 0 then 0 else v

/-- `x[rd] <- v; pc <- pc + ilen` in `lo` to `hi` cycles, and nothing else. -/
structure Computed (ilen : Word) (lo hi : Nat) (rd : Reg) (v : Word) (s t : State) : Prop where
  result : Wrote rd v t
  pc : t.pc = s.pc + ilen
  time : Took lo hi s t
  rest : KeepsAllBut [rd] s t

/-- `unaligned(target)` (R414): the target is 2 modulo 4, and the parcel there has bits 1:0 = `0b11`. There is a parcel
where the map backs its fetch and both bytes hold a value. (log 33) -/
structure Unaligned (target : Word) (s : State) : Prop where
  twoModFour : target.toNat % 4 = 2
  backed : Machine.backed .fetch 2 target s = true
  long : ∃ b0 b1, s.mem.read target.toNat = some b0 ∧ s.mem.read (target.toNat + 1) = some b1 ∧ b0.extractLsb 1 0 = 3#2

/-- The pc is at a transfer's target, in `2 + u` cycles (R420). -/
structure Transferred (target : Word) (s t : State) : Prop where
  pc : t.pc = target
  unaligned : Unaligned target s → t.cycles = s.cycles + 3
  other : ¬ Unaligned target s → t.cycles = s.cycles + 2

/-- `x[rd] <- pc + ilen; pc <- target`, and nothing else. -/
structure Linked (ilen : Word) (rd : Reg) (target : Word) (s t : State) : Prop where
  link : Wrote rd (s.pc + ilen) t
  transfer : Transferred target s t
  rest : KeepsAllBut [rd] s t

/-- `if taken then pc <- target else pc <- pc + ilen`, and nothing else. -/
structure Branched (ilen : Word) (taken : Prop) (target : Word) (s t : State) : Prop where
  whenTaken : taken → Transferred target s t
  whenNot : ¬ taken → t.pc = s.pc + ilen ∧ t.cycles = s.cycles + 1
  rest : KeepsAllBut [] s t

/-- The `n` bytes from `addr` hold the low `8n` bits of `v`, the least significant byte lowest (R51). -/
def HoldsAt (n : Nat) (addr v : Word) (s : State) : Prop :=
  ∀ i < n, s.mem.read (addr.toNat + i) = some ((v >>> (8 * i)).setWidth 8)

/-- An access of `n` bytes at `addr` passes both checks of R57: it is aligned, and the map backs it for these kinds. -/
structure Permitted (ks : List AccessKind) (n : Nat) (addr : Word) (s : State) : Prop where
  aligned : addr.toNat % n = 0
  backed : ∀ k ∈ ks, backed k n addr s = true

/-- Aligned, but the map does not back it for every one of these kinds: the second check of R57 fails. -/
structure Unbacked (ks : List AccessKind) (n : Nat) (addr : Word) (s : State) : Prop where
  aligned : addr.toNat % n = 0
  unbacked : ∃ k ∈ ks, backed k n addr s = false

/-- `n` bytes of `v` were written at `addr` and to no other address, and they count as stored to (R57, R46). -/
structure Stored (n : Nat) (addr v : Word) (s t : State) : Prop where
  bytes : HoldsAt n addr v t
  others : ∀ a, a < addr.toNat ∨ addr.toNat + n ≤ a → t.mem.read a = s.mem.read a
  stored : ∀ a, a ∈ t.storedSinceFenceI ↔ a ∈ s.storedSinceFenceI ∨ (addr.toNat ≤ a ∧ a < addr.toNat + n)
  map : t.memMap = s.memMap

/-- A store instruction of `ilen` bytes did its store in 1 cycle, and nothing else. -/
structure DidStore (ilen : Word) (n : Nat) (addr v : Word) (s t : State) : Prop where
  store : Stored n addr v s t
  pc : t.pc = s.pc + ilen
  time : t.cycles = s.cycles + 1
  regs : KeepsRegs [] s t
  csrs : KeepsCsrs s t
  monitors : KeepsMonitors s t

/-- A trap was taken (R370): the pc saved with bit 0 cleared, the cause code, MIE moved to MPIE and cleared, the pc at
the base of `mtvec`; nothing the instruction would have written is written. `mtval` is open (R361). -/
structure Trapped (code : Word) (s t : State) : Prop where
  mepc : t.mepc = s.pc &&& 0xFFFFFFFE#32
  mcause : t.mcause = code
  mstatus : t.mstatus = { mie := false, mpie := s.mstatus.mie }
  pc : t.pc = s.mtvec.base ++ 0#2
  mtvec : t.mtvec = s.mtvec
  mscratch : t.mscratch = s.mscratch
  regs : KeepsRegs [] s t
  lm : t.lm = s.lm
  memory : KeepsMemory s t

/-- What `CsrRead` may return (R280, R30 to R35): for `mcause` after an illegal write, anything. -/
def CsrReads (c : Csr) (v : Word) (s : State) : Prop :=
  match c with
  | .mstatus => v = 0x00001800#32 ||| (if s.mstatus.mpie then 0x80#32 else 0) ||| (if s.mstatus.mie then 0x8#32 else 0)
  | .mtvec => v = s.mtvec.base ++ 0#1 ++ BitVec.ofBool s.mtvec.mode0
  | .mscratch => v = s.mscratch
  | .mepc => v = s.mepc
  | .mcause => s.mcause ∈ [0#32, 1#32, 2#32, 3#32, 4#32, 5#32, 6#32, 7#32, 11#32] → v = s.mcause
  | .mtval => v = s.mtval

/-- The control and status registers after `CsrWrite` of `v` to `c`, or after no write (R280). -/
structure CsrAfter (c : Csr) (v : Option Word) (s t : State) : Prop where
  mstatus : t.mstatus = if c = .mstatus then v.elim s.mstatus fun w => ⟨w.getLsbD 3, w.getLsbD 7⟩ else s.mstatus
  mtvec : t.mtvec = if c = .mtvec then v.elim s.mtvec fun w => ⟨w.extractLsb 31 2, w.getLsbD 0⟩ else s.mtvec
  mscratch : t.mscratch = if c = .mscratch then v.getD s.mscratch else s.mscratch
  mepc : t.mepc = if c = .mepc then v.elim s.mepc fun w => w &&& 0xFFFFFFFE#32 else s.mepc
  mcause : t.mcause = if c = .mcause then v.getD s.mcause else s.mcause
  mtval : t.mtval = if c = .mtval then v.getD s.mtval else s.mtval

/-- A CSR instruction read `old` into `rd`, wrote `new` to `c` or nothing, in 1 cycle, and did nothing else. -/
structure DidCsr (c : Csr) (rd : Reg) (old : Word) (new : Option Word) (s t : State) : Prop where
  result : Wrote rd old t
  csrs : CsrAfter c new s t
  pc : t.pc = s.pc + 4
  time : t.cycles = s.cycles + 1
  regs : KeepsRegs [rd] s t
  monitors : KeepsMonitors s t
  memory : KeepsMemory s t

/-- The six modelled registers by address (R36). -/
def csrTable : List (BitVec 12 × Csr) :=
  [(0x300#12, .mstatus), (0x305#12, .mtvec), (0x340#12, .mscratch), (0x341#12, .mepc), (0x342#12, .mcause),
    (0x343#12, .mtval)]

/-- The bytes at the pc, all of them inside the address space, hold values, are backed for fetch, and were not stored
to since the last `fence.i` (R59, R67). -/
structure CodeAt (bs : List Byte) (s : State) : Prop where
  fits : s.pc.toNat + bs.length ≤ 2 ^ 32
  holds : ∀ i, (h : i < bs.length) → s.mem.read (s.pc.toNat + i) = some bs[i]
  backed : ∀ i, i < bs.length → i % 2 = 0 → Machine.backed .fetch 2 (s.pc + BitVec.ofNat 32 i) s = true
  unstored : ∀ i, i < bs.length → s.pc.toNat + i ∉ s.storedSinceFenceI

/-- The step from here takes a trap with this code. -/
def StepTraps (code : Word) (s : State) : Prop := ∃ t, step s = .next t ∧ Trapped code s t

/-- Whatever the operands' registers, the instruction gives this result for these operand values. -/
def GivesResult (i : Reg → Reg → Reg → Instr) (a b v : Word) : Prop :=
  ∀ (s : State) (rd rs1 rs2 : Reg), readReg rs1 s = a → readReg rs2 s = b → Does (i rd rs1 rs2) s (Wrote rd v)

/-- The nine AMOs with the same operands (R213 to R221). -/
def amoInstrs (rd rs2 rs1 : Reg) (aq rl : Bool) : List Instr :=
  [.amoswapW rd rs2 rs1 aq rl, .amoaddW rd rs2 rs1 aq rl, .amoxorW rd rs2 rs1 aq rl, .amoandW rd rs2 rs1 aq rl,
    .amoorW rd rs2 rs1 aq rl, .amominW rd rs2 rs1 aq rl, .amomaxW rd rs2 rs1 aq rl, .amominuW rd rs2 rs1 aq rl,
    .amomaxuW rd rs2 rs1 aq rl]

/-- The nine AMOs with the same operands, each with its operation on the word read and the old `rs2` (R213 to R221). -/
def amoOperations (rd rs2 rs1 : Reg) (aq rl : Bool) : List (Instr × (Word → Word → Word)) :=
  [(.amoswapW rd rs2 rs1 aq rl, fun _ src => src),
    (.amoaddW rd rs2 rs1 aq rl, fun old src => BitVec.ofNat 32 (old.toNat + src.toNat)),
    (.amoxorW rd rs2 rs1 aq rl, fun old src => old ^^^ src), (.amoandW rd rs2 rs1 aq rl, fun old src => old &&& src),
    (.amoorW rd rs2 rs1 aq rl, fun old src => old ||| src),
    (.amominW rd rs2 rs1 aq rl, fun old src => if old.toInt < src.toInt then old else src),
    (.amomaxW rd rs2 rs1 aq rl, fun old src => if old.toInt < src.toInt then src else old),
    (.amominuW rd rs2 rs1 aq rl, fun old src => if old.toNat < src.toNat then old else src),
    (.amomaxuW rd rs2 rs1 aq rl, fun old src => if old.toNat < src.toNat then src else old)]

/-- An AMO completed in `n` attempts (R62, R415): `old` in `rd`, `new` in memory, the local monitor untouched, and
these answers of the global monitor left. -/
structure DidAmo (rd : Reg) (addr old new : Word) (n : Nat) (reads : List ReadAnswer) (writes : List WriteAnswer)
    (s t : State) : Prop where
  result : Wrote rd old t
  store : Stored 4 addr new s t
  pc : t.pc = s.pc + 4
  time : t.cycles = s.cycles + 4 * n
  regs : KeepsRegs [rd] s t
  csrs : KeepsCsrs s t
  lm : t.lm = s.lm
  reads : t.monitorReads = reads
  writes : t.monitorWrites = writes

/-- An `sc.w` that raised nothing: this code in `rd`, the local monitor clear, in 1 or 2 cycles; memory is said apart. -/
structure DidSc (rd : Reg) (code : Word) (s t : State) : Prop where
  result : Wrote rd code t
  lm : t.lm = false
  pc : t.pc = s.pc + 4
  time : Took 1 2 s t
  regs : KeepsRegs [rd] s t
  csrs : KeepsCsrs s t
  reads : t.monitorReads = s.monitorReads

/-- An `sc.w` at this address raises nothing (R212): the address is aligned, and either no write is tried, or its answer
is `lost`, or the map backs the write. -/
structure ScRaisesNothing (addr : Word) (s : State) : Prop where
  aligned : addr.toNat % 4 = 0
  write : s.lm = false ∨ (∃ writes, s.monitorWrites = .lost :: writes) ∨ Permitted exclusiveWriteKinds 4 addr s

/-- The seven loads, each with its width and its address (R171 to R175, R244, R263). -/
def loadsFrom (rd rs1 : Reg) (imm : BitVec 12) (u7 : BitVec 7) (u8 : BitVec 8) (s : State) : List (Instr × Nat × Word) :=
  [(.lw rd imm rs1, 4, readReg rs1 s + imm.signExtend 32), (.lh rd imm rs1, 2, readReg rs1 s + imm.signExtend 32),
    (.lhu rd imm rs1, 2, readReg rs1 s + imm.signExtend 32), (.lb rd imm rs1, 1, readReg rs1 s + imm.signExtend 32),
    (.lbu rd imm rs1, 1, readReg rs1 s + imm.signExtend 32), (.cLw rd u7 rs1, 4, readReg rs1 s + u7.setWidth 32),
    (.cLwsp rd u8, 4, readReg 2 s + u8.setWidth 32)]

/-- The instructions whose second source is the data they store. -/
def storesData (j : Instr) : Bool := [InstrClass.store, .storeConditional, .amo].contains (classOf j)

/-- The operands that make the instruction executed next wait for a result (R412): those it consumes in stage 2. The
data register of a store is consumed in stage 3, and for that of `sc.w` and the AMOs the stage is open. -/
def stageTwo (j : Instr) : List Reg := if storesData j then (sources j).take 1 else sources j

/-- The operand whose stage R412 leaves open: the data register of `sc.w` and of an AMO. -/
def openStage (j : Instr) : List Reg :=
  if [InstrClass.storeConditional, .amo].contains (classOf j) then (sources j).drop 1 else []

/-- `1 + d` cycles (R412, R420) for a result in `rd`, the instruction executed next being `j`. -/
structure DependencyCycles (rd : Reg) (j : Instr) (s t : State) : Prop where
  dependent : rd ≠ 0 → rd ∈ stageTwo j → t.cycles = s.cycles + 2
  openCase : rd ≠ 0 → rd ∉ stageTwo j → rd ∈ openStage j → Took 1 2 s t
  independent : rd = 0 ∨ (rd ∉ stageTwo j ∧ rd ∉ openStage j) → t.cycles = s.cycles + 1

/-- `1 + max(d, e)` cycles (R413, R420). -/
structure ExclusiveCycles (rd : Reg) (j : Instr) (s t : State) : Prop where
  exclusive : classOf j ∈ [.loadReserved, .storeConditional, .amo] → t.cycles = s.cycles + 2
  other : classOf j ∉ [.loadReserved, .storeConditional, .amo] → DependencyCycles rd j s t

end Sys2Proof.Machine
end

