-- ==== Sys2Proof/Certificates/Slice0/Obligations.lean ====
section
/-! DEFINITION. The statements for the provers. Each says what its title and statement in OBLIGATIONS.json say; the words
they are made of are in Safety.lean. -/

section

open Sys2Proof Sys2Proof.Machine

/-- O1. There are 32 general registers of 32 bits. x0 reads 0 and a write to it changes nothing in the state. A write
to any other register is read back, and changes no other register. (R20) -/
def Obligations.ZeroRegisterHardwired : Prop :=
  Fintype.card Reg = 32 ∧ ∀ s : State,
    readReg 0 s = 0 ∧ (∀ v, writeReg 0 v s = s) ∧
    (∀ (r : Reg) (v : Word), r ≠ 0 → readReg r (writeReg r v s) = v) ∧
    (∀ (r q : Reg) (v : Word), q ≠ r → readReg q (writeReg r v s) = readReg q s)

/-- O2. From every state, with every choice of registers, each of the ten completes: rd (unless x0) holds the result
of the two old source values as integers reduced modulo 2^32, the pc moves 4, 1 cycle is charged, and every other
register, CSR, monitor and byte of memory is unchanged. Shift amounts are the second operand modulo 32. (R121, R122,
R123, R124, R125, R126, R127, R128, R129, R130, R120 in 40_rv32i_integer.md, R142 in 40_rv32i_integer.md) -/
def Obligations.IntegerRegisterResults : Prop :=
  ∀ (s : State) (rd rs1 rs2 : Reg) (a b : Word), a = readReg rs1 s → b = readReg rs2 s →
    Does (.add rd rs1 rs2) s (Computed 4 1 1 rd (BitVec.ofInt 32 (a.toInt + b.toInt)) s) ∧
    Does (.sub rd rs1 rs2) s (Computed 4 1 1 rd (BitVec.ofInt 32 (a.toInt - b.toInt)) s) ∧
    Does (.slt rd rs1 rs2) s (Computed 4 1 1 rd (if a.toInt < b.toInt then 1 else 0) s) ∧
    Does (.sltu rd rs1 rs2) s (Computed 4 1 1 rd (if a.toNat < b.toNat then 1 else 0) s) ∧
    Does (.and rd rs1 rs2) s (Computed 4 1 1 rd (a &&& b) s) ∧
    Does (.or rd rs1 rs2) s (Computed 4 1 1 rd (a ||| b) s) ∧
    Does (.xor rd rs1 rs2) s (Computed 4 1 1 rd (a ^^^ b) s) ∧
    Does (.sll rd rs1 rs2) s (Computed 4 1 1 rd (BitVec.ofNat 32 (a.toNat * 2 ^ (b.toNat % 32))) s) ∧
    Does (.srl rd rs1 rs2) s (Computed 4 1 1 rd (BitVec.ofNat 32 (a.toNat / 2 ^ (b.toNat % 32))) s) ∧
    Does (.sra rd rs1 rs2) s (Computed 4 1 1 rd (BitVec.ofInt 32 (a.toInt / 2 ^ (b.toNat % 32))) s)

/-- O3. From every state, with every choice of registers and immediate, each of the nine completes: rd (unless x0)
holds the result, the 12-bit immediate sign-extended (for sltiu too, and then compared as unsigned), the pc moves 4, 1
cycle is charged, and every other register, CSR, monitor and byte of memory is unchanged. (R131, R132, R133, R134,
R135, R136, R137, R138, R139, R83 in 30_encoding.md) -/
def Obligations.IntegerImmediateResults : Prop :=
  ∀ (s : State) (rd rs1 : Reg) (imm : BitVec 12) (shamt : BitVec 5) (a : Word), a = readReg rs1 s →
    Does (.addi rd rs1 imm) s (Computed 4 1 1 rd (BitVec.ofInt 32 (a.toInt + imm.toInt)) s) ∧
    Does (.slti rd rs1 imm) s (Computed 4 1 1 rd (if a.toInt < imm.toInt then 1 else 0) s) ∧
    Does (.sltiu rd rs1 imm) s (Computed 4 1 1 rd (if a.toNat < (imm.signExtend 32).toNat then 1 else 0) s) ∧
    Does (.andi rd rs1 imm) s (Computed 4 1 1 rd (a &&& imm.signExtend 32) s) ∧
    Does (.ori rd rs1 imm) s (Computed 4 1 1 rd (a ||| imm.signExtend 32) s) ∧
    Does (.xori rd rs1 imm) s (Computed 4 1 1 rd (a ^^^ imm.signExtend 32) s) ∧
    Does (.slli rd rs1 shamt) s (Computed 4 1 1 rd (BitVec.ofNat 32 (a.toNat * 2 ^ shamt.toNat)) s) ∧
    Does (.srli rd rs1 shamt) s (Computed 4 1 1 rd (BitVec.ofNat 32 (a.toNat / 2 ^ shamt.toNat)) s) ∧
    Does (.srai rd rs1 shamt) s (Computed 4 1 1 rd (BitVec.ofInt 32 (a.toInt / 2 ^ shamt.toNat)) s)

/-- O4. From every state lui completes with imm * 4096 in rd and auipc with pc + imm * 4096 modulo 2^32, where pc is
the address of the auipc; the pc moves 4, 1 cycle is charged, nothing else changes. (R140, R141, R87 in
30_encoding.md) -/
def Obligations.UpperImmediateResults : Prop :=
  ∀ (s : State) (rd : Reg) (imm : BitVec 20),
    Does (.lui rd imm) s (Computed 4 1 1 rd (BitVec.ofNat 32 (imm.toNat * 4096)) s) ∧
    Does (.auipc rd imm) s (Computed 4 1 1 rd (BitVec.ofNat 32 (s.pc.toNat + imm.toNat * 4096)) s)

/-- O5. From every state each jump completes: the pc is the target (jalr forms: old rs1 plus immediate, bit 0
cleared), the link register (x1 for c.jal and c.jalr, x0 for c.j and c.jr) holds the jump's address plus its length, 3
cycles are charged when the target is 2 modulo 4 and the parcel there has bits 1:0 = 11, else 2, so 2 where there is
no parcel; nothing else changes. That an address the map does not back for fetch has no parcel, and that bytes stored
to since fence.i have one, is deduced (log 33). (R150, R151, R248, R259, R264, R267, R414 in 70_reset_and_hazards.md,
R420 in 70_reset_and_hazards.md, R158 in 41_rv32i_control_transfer.md) -/
def Obligations.JumpsLinkAndTransfer : Prop :=
  ∀ (s : State) (rd rs1 : Reg) (imm : BitVec 12) (offset : BitVec 21) (short : BitVec 12),
    Does (.jal rd offset) s (Linked 4 rd (s.pc + offset.signExtend 32) s) ∧
    Does (.jalr rd rs1 imm) s (Linked 4 rd ((readReg rs1 s + imm.signExtend 32) &&& 0xFFFFFFFE#32) s) ∧
    Does (.cJ short) s (Linked 2 0 (s.pc + short.signExtend 32) s) ∧
    Does (.cJal short) s (Linked 2 1 (s.pc + short.signExtend 32) s) ∧
    Does (.cJr rs1) s (Linked 2 0 (readReg rs1 s &&& 0xFFFFFFFE#32) s) ∧
    Does (.cJalr rs1) s (Linked 2 1 (readReg rs1 s &&& 0xFFFFFFFE#32) s)

/-- O6. From every state each branch completes. Taken (equal, not equal, signed or unsigned less or not less; for
c.beqz and c.bnez against 0) the pc is the branch's address plus the offset, in 3 cycles when the target is 2 modulo 4
and the parcel there has bits 1:0 = 11, else in 2; not taken the pc moves past the branch in 1 cycle. No register,
CSR, monitor or byte of memory changes. That an address the map does not back for fetch has no parcel, and that bytes
stored to since fence.i have one, is deduced (log 33). (R152, R153, R154, R155, R156, R157, R260, R261, R414 in
70_reset_and_hazards.md, R417 in 70_reset_and_hazards.md, R420 in 70_reset_and_hazards.md) -/
def Obligations.BranchesCompareAndTransfer : Prop :=
  ∀ (s : State) (rs1 rs2 : Reg) (offset : BitVec 13) (short : BitVec 9) (a b : Word),
    a = readReg rs1 s → b = readReg rs2 s →
    Does (.beq rs1 rs2 offset) s (Branched 4 (a = b) (s.pc + offset.signExtend 32) s) ∧
    Does (.bne rs1 rs2 offset) s (Branched 4 (a ≠ b) (s.pc + offset.signExtend 32) s) ∧
    Does (.blt rs1 rs2 offset) s (Branched 4 (a.toInt < b.toInt) (s.pc + offset.signExtend 32) s) ∧
    Does (.bge rs1 rs2 offset) s (Branched 4 (b.toInt ≤ a.toInt) (s.pc + offset.signExtend 32) s) ∧
    Does (.bltu rs1 rs2 offset) s (Branched 4 (a.toNat < b.toNat) (s.pc + offset.signExtend 32) s) ∧
    Does (.bgeu rs1 rs2 offset) s (Branched 4 (b.toNat ≤ a.toNat) (s.pc + offset.signExtend 32) s) ∧
    Does (.cBeqz rs1 short) s (Branched 2 (a = 0) (s.pc + short.signExtend 32) s) ∧
    Does (.cBnez rs1 short) s (Branched 2 (a ≠ 0) (s.pc + short.signExtend 32) s)

/-- O7. If the address (base plus sign-extended displacement; for the 16-bit forms plus the zero-extended
displacement) is aligned for the width, the map backs the read and the bytes there hold the low bits of v, the load
completes: rd (unless x0) holds those bits, sign- or zero-extended, the pc moves past the load, 1 or 2 cycles are
charged, and no other register, no CSR, no monitor and no byte of memory changes. (R171, R172, R173, R174, R175, R244,
R263, R170 in 42_rv32i_load_store.md, R57 in 20_memory.md, R51 in 20_memory.md, R412 in 70_reset_and_hazards.md) -/
def Obligations.LoadsReadAndExtend : Prop :=
  ∀ (s : State) (rd rs1 : Reg) (imm : BitVec 12) (u7 : BitVec 7) (u8 : BitVec 8) (addr v : Word),
    (addr = readReg rs1 s + imm.signExtend 32 →
      (Permitted [.read] 4 addr s → HoldsAt 4 addr v s → Does (.lw rd imm rs1) s (Computed 4 1 2 rd v s)) ∧
      (Permitted [.read] 2 addr s → HoldsAt 2 addr v s →
        Does (.lh rd imm rs1) s (Computed 4 1 2 rd ((v.setWidth 16).signExtend 32) s) ∧
        Does (.lhu rd imm rs1) s (Computed 4 1 2 rd ((v.setWidth 16).setWidth 32) s)) ∧
      (Permitted [.read] 1 addr s → HoldsAt 1 addr v s →
        Does (.lb rd imm rs1) s (Computed 4 1 2 rd ((v.setWidth 8).signExtend 32) s) ∧
        Does (.lbu rd imm rs1) s (Computed 4 1 2 rd ((v.setWidth 8).setWidth 32) s))) ∧
    (addr = readReg rs1 s + u7.setWidth 32 → Permitted [.read] 4 addr s → HoldsAt 4 addr v s →
      Does (.cLw rd u7 rs1) s (Computed 2 1 2 rd v s)) ∧
    (addr = readReg 2 s + u8.setWidth 32 → Permitted [.read] 4 addr s → HoldsAt 4 addr v s →
      Does (.cLwsp rd u8) s (Computed 2 1 2 rd v s))

/-- O8. For every load and lr.w, whatever the memory holds: if the address is not a multiple of the width the
instruction takes the trap with code 4 (lb and lbu have no such case), whether or not the map backs it; if it is
aligned and the map does not back the read it takes the trap with code 5. A trap writes no general register and no
memory and leaves the local monitor. That lr.w needs both the read and the exclusive read backed is deduced (log 9).
(R55 in 20_memory.md, R57 in 20_memory.md, R58 in 20_memory.md, R360 in 60_exceptions.md, R369 in 60_exceptions.md,
R370 in 60_exceptions.md, R171, R211) -/
def Obligations.LoadTraps : Prop :=
  ∀ (s : State) (rd rs1 : Reg) (imm : BitVec 12) (u7 : BitVec 7) (u8 : BitVec 8) (aq rl : Bool) (addr : Word),
    (addr = readReg rs1 s + imm.signExtend 32 →
      (addr.toNat % 4 ≠ 0 → Does (.lw rd imm rs1) s (Trapped 4 s)) ∧
      (Unbacked [.read] 4 addr s → Does (.lw rd imm rs1) s (Trapped 5 s)) ∧
      (addr.toNat % 2 ≠ 0 → Does (.lh rd imm rs1) s (Trapped 4 s) ∧ Does (.lhu rd imm rs1) s (Trapped 4 s)) ∧
      (Unbacked [.read] 2 addr s → Does (.lh rd imm rs1) s (Trapped 5 s) ∧ Does (.lhu rd imm rs1) s (Trapped 5 s)) ∧
      (Unbacked [.read] 1 addr s → Does (.lb rd imm rs1) s (Trapped 5 s) ∧ Does (.lbu rd imm rs1) s (Trapped 5 s))) ∧
    (addr = readReg rs1 s + u7.setWidth 32 →
      (addr.toNat % 4 ≠ 0 → Does (.cLw rd u7 rs1) s (Trapped 4 s)) ∧
      (Unbacked [.read] 4 addr s → Does (.cLw rd u7 rs1) s (Trapped 5 s))) ∧
    (addr = readReg 2 s + u8.setWidth 32 →
      (addr.toNat % 4 ≠ 0 → Does (.cLwsp rd u8) s (Trapped 4 s)) ∧
      (Unbacked [.read] 4 addr s → Does (.cLwsp rd u8) s (Trapped 5 s))) ∧
    (addr = readReg rs1 s →
      (addr.toNat % 4 ≠ 0 → Does (.lrW rd rs1 aq rl) s (Trapped 4 s)) ∧
      (Unbacked exclusiveReadKinds 4 addr s → Does (.lrW rd rs1 aq rl) s (Trapped 5 s)))

/-- O9. If the address is aligned and backed for the access and some byte of the range holds no value, every load,
lr.w and AMO stops with the model's fault, which names the address and the width. It is not a trap. (For a load, rule
R57's third line; that the exclusive reads need both kinds backed is deduced, log 9.) (R57 in 20_memory.md, R39 in
10_state.md, R362 in 60_exceptions.md, R62 in 20_memory.md) -/
def Obligations.LoadOfNoValueFaults : Prop :=
  ∀ (s : State) (rd rs2 rs1 : Reg) (imm : BitVec 12) (u7 : BitVec 7) (u8 : BitVec 8) (aq rl : Bool) (addr : Word) (i : Nat),
    s.mem.read (addr.toNat + i) = none →
    (addr = readReg rs1 s + imm.signExtend 32 →
      (Permitted [.read] 4 addr s → i < 4 → exec (.lw rd imm rs1) s = .fault (.memoryHoldsNoValue addr 4)) ∧
      (Permitted [.read] 2 addr s → i < 2 → exec (.lh rd imm rs1) s = .fault (.memoryHoldsNoValue addr 2) ∧
        exec (.lhu rd imm rs1) s = .fault (.memoryHoldsNoValue addr 2)) ∧
      (Permitted [.read] 1 addr s → i < 1 → exec (.lb rd imm rs1) s = .fault (.memoryHoldsNoValue addr 1) ∧
        exec (.lbu rd imm rs1) s = .fault (.memoryHoldsNoValue addr 1))) ∧
    (addr = readReg rs1 s + u7.setWidth 32 → Permitted [.read] 4 addr s → i < 4 →
      exec (.cLw rd u7 rs1) s = .fault (.memoryHoldsNoValue addr 4)) ∧
    (addr = readReg 2 s + u8.setWidth 32 → Permitted [.read] 4 addr s → i < 4 →
      exec (.cLwsp rd u8) s = .fault (.memoryHoldsNoValue addr 4)) ∧
    (addr = readReg rs1 s → Permitted exclusiveReadKinds 4 addr s → i < 4 →
      exec (.lrW rd rs1 aq rl) s = .fault (.memoryHoldsNoValue addr 4) ∧
      ∀ j ∈ amoInstrs rd rs2 rs1 aq rl, exec j s = .fault (.memoryHoldsNoValue addr 4))

/-- O10. Let mul, a load at a permitted address that holds a value, such an lr.w, or an sc.w that raises nothing lead
from s to t, and let the fetch at t give j. After mul and the loads the cost is 2 if rd is not x0 and is a stage-2
operand of j (every source but the data register of a store, sc.w or AMO), 1 or 2 if rd is only the data register of
an sc.w or AMO, else 1. After lr.w and sc.w it is 2 if j is lr.w, sc.w or an AMO, and otherwise the same. That both
kinds must be backed for the exclusive accesses is deduced (log 9); that j counts as executed next also where a
claim's run ends at it is the model's choice (log 36). (R412 in 70_reset_and_hazards.md, R413 in
70_reset_and_hazards.md, R420 in 70_reset_and_hazards.md, R419 in 70_reset_and_hazards.md) -/
def Obligations.DependentSuccessorCostsTwo : Prop :=
  ∀ (s t : State) (rd rs1 rs2 : Reg) (imm : BitVec 12) (u7 : BitVec 7) (u8 : BitVec 8) (aq rl : Bool) (v : Word)
    (j : Instr), fetchInstr t = .got j →
    (exec (.mul rd rs1 rs2) s = .next t → DependencyCycles rd j s t) ∧
    (∀ e ∈ loadsFrom rd rs1 imm u7 u8 s, Permitted [.read] e.2.1 e.2.2 s → HoldsAt e.2.1 e.2.2 v s →
      exec e.1 s = .next t → DependencyCycles rd j s t) ∧
    (Permitted exclusiveReadKinds 4 (readReg rs1 s) s → HoldsAt 4 (readReg rs1 s) v s →
      exec (.lrW rd rs1 aq rl) s = .next t → ExclusiveCycles rd j s t) ∧
    (ScRaisesNothing (readReg rs1 s) s → exec (.scW rd rs2 rs1 aq rl) s = .next t → ExclusiveCycles rd j s t)

/-- O11. For each of the six sequences of rule R423: when the first instruction completes from s in t, and the fetch
at t gives the second, the first was charged the table's count. The loads and lr.w are at a permitted address that
holds a value; the sc.w is one that raises nothing: local monitor clear, or its write lost, or the write backed. That
both kinds must be backed for the exclusive accesses is deduced (log 9); that the second counts as executed next also
where a claim's run ends at it is the model's choice (log 36). (R423 in 70_reset_and_hazards.md) -/
def Obligations.SourceDependencyExamples : Prop :=
  ∀ (s t : State) (v : Word),
    (Permitted exclusiveReadKinds 4 (readReg 10 s) s → HoldsAt 4 (readReg 10 s) v s →
      (exec (.lw 5 0 10) s = .next t →
        (fetchInstr t = .got (.add 6 5 7) → t.cycles = s.cycles + 2) ∧
        (fetchInstr t = .got (.sw 5 0 11) → t.cycles = s.cycles + 1) ∧
        (fetchInstr t = .got (.lw 6 0 5) → t.cycles = s.cycles + 2) ∧
        (fetchInstr t = .got (.add 6 7 8) → t.cycles = s.cycles + 1)) ∧
      (∀ aq rl aq' rl', exec (.lrW 5 10 aq rl) s = .next t → fetchInstr t = .got (.scW 6 7 10 aq' rl') →
        t.cycles = s.cycles + 2)) ∧
    (∀ aq rl offset, ScRaisesNothing (readReg 10 s) s → exec (.scW 6 5 10 aq rl) s = .next t →
      fetchInstr t = .got (.beq 6 0 offset) → t.cycles = s.cycles + 2)

/-- O12. If the address (base plus displacement) is aligned for the width and the map backs the write, the store
completes: the bytes from the address hold the low bits of rs2, least significant lowest, every other byte of memory
is unchanged, the stored bytes join the set of bytes stored to since fence.i, the pc moves past the store, 1 cycle is
charged, and no register, CSR or monitor changes. (R176, R177, R178, R245, R269, R170 in 42_rv32i_load_store.md, R57
in 20_memory.md, R46 in 10_state.md, R411 in 70_reset_and_hazards.md) -/
def Obligations.StoresWriteTheirBytes : Prop :=
  ∀ (s : State) (rs2 rs1 : Reg) (imm : BitVec 12) (u7 : BitVec 7) (u8 : BitVec 8) (addr : Word),
    (addr = readReg rs1 s + imm.signExtend 32 →
      (Permitted [.write] 4 addr s → Does (.sw rs2 imm rs1) s (DidStore 4 4 addr (readReg rs2 s) s)) ∧
      (Permitted [.write] 2 addr s → Does (.sh rs2 imm rs1) s (DidStore 4 2 addr (readReg rs2 s) s)) ∧
      (Permitted [.write] 1 addr s → Does (.sb rs2 imm rs1) s (DidStore 4 1 addr (readReg rs2 s) s))) ∧
    (addr = readReg rs1 s + u7.setWidth 32 → Permitted [.write] 4 addr s →
      Does (.cSw rs2 u7 rs1) s (DidStore 2 4 addr (readReg rs2 s) s)) ∧
    (addr = readReg 2 s + u8.setWidth 32 → Permitted [.write] 4 addr s →
      Does (.cSwsp rs2 u8) s (DidStore 2 4 addr (readReg rs2 s) s))

/-- O13. For every store: if the address is not a multiple of the width the store takes the trap with code 6 (sb has
no such case), whether or not the map backs it; if it is aligned and the map does not back the write it takes the trap
with code 7. An sc.w traps with code 6 at a misaligned address whatever the local monitor holds, and with code 7 only
when the write is attempted (local monitor set, the global monitor answers ok). No byte is written and the local
monitor is left as it was. That an sc.w needs both the write and the exclusive write backed is deduced (log 9). (R55
in 20_memory.md, R57 in 20_memory.md, R58 in 20_memory.md, R360 in 60_exceptions.md, R369 in 60_exceptions.md, R370 in
60_exceptions.md, R212) -/
def Obligations.StoreTraps : Prop :=
  ∀ (s : State) (rd rs2 rs1 : Reg) (imm : BitVec 12) (u7 : BitVec 7) (u8 : BitVec 8) (aq rl : Bool) (addr : Word)
    (writes : List WriteAnswer),
    (addr = readReg rs1 s + imm.signExtend 32 →
      (addr.toNat % 4 ≠ 0 → Does (.sw rs2 imm rs1) s (Trapped 6 s)) ∧
      (Unbacked [.write] 4 addr s → Does (.sw rs2 imm rs1) s (Trapped 7 s)) ∧
      (addr.toNat % 2 ≠ 0 → Does (.sh rs2 imm rs1) s (Trapped 6 s)) ∧
      (Unbacked [.write] 2 addr s → Does (.sh rs2 imm rs1) s (Trapped 7 s)) ∧
      (Unbacked [.write] 1 addr s → Does (.sb rs2 imm rs1) s (Trapped 7 s))) ∧
    (addr = readReg rs1 s + u7.setWidth 32 →
      (addr.toNat % 4 ≠ 0 → Does (.cSw rs2 u7 rs1) s (Trapped 6 s)) ∧
      (Unbacked [.write] 4 addr s → Does (.cSw rs2 u7 rs1) s (Trapped 7 s))) ∧
    (addr = readReg 2 s + u8.setWidth 32 →
      (addr.toNat % 4 ≠ 0 → Does (.cSwsp rs2 u8) s (Trapped 6 s)) ∧
      (Unbacked [.write] 4 addr s → Does (.cSwsp rs2 u8) s (Trapped 7 s))) ∧
    (addr = readReg rs1 s →
      (addr.toNat % 4 ≠ 0 → Does (.scW rd rs2 rs1 aq rl) s (Trapped 6 s)) ∧
      (Unbacked exclusiveWriteKinds 4 addr s → s.lm = true → s.monitorWrites = .ok :: writes →
        Does (.scW rd rs2 rs1 aq rl) s (Trapped 7 s)))

/-- O14. A read of four or two bytes gives them with the lowest address least significant; a write of four or two
bytes stores the least significant byte lowest. After a word v is written at a, a byte read at a + 1 gives v[15:8] and
a halfword read at a + 2 gives v[31:16], where the map backs those reads. The mixed widths are R53, which the spec
marks as its own derivation from R51; the byte order of R51 is the spec's decision D3 (log 21). (R51 in 20_memory.md,
R53 in 20_memory.md) -/
def Obligations.MixedWidthLittleEndian : Prop :=
  ∀ (s t : State) (a v : Word),
    (∀ b0 b1 b2 b3 : Byte, Permitted [.read] 4 a s → s.mem.readBytes 4 a.toNat = some [b0, b1, b2, b3] →
      memRead .load [.read] 4 a s = .value (b3 ++ b2 ++ b1 ++ b0)) ∧
    (∀ b0 b1 : Byte, Permitted [.read] 2 a s → s.mem.readBytes 2 a.toNat = some [b0, b1] →
      memRead .load [.read] 2 a s = .value ((b1 ++ b0).setWidth 32)) ∧
    (memWrite [.write] 4 a v s = .ok t →
      t.mem.read a.toNat = some (v.extractLsb 7 0) ∧ t.mem.read (a.toNat + 1) = some (v.extractLsb 15 8) ∧
      t.mem.read (a.toNat + 2) = some (v.extractLsb 23 16) ∧ t.mem.read (a.toNat + 3) = some (v.extractLsb 31 24) ∧
      (backed .read 1 (a + 1) t = true → memRead .load [.read] 1 (a + 1) t = .value ((v.extractLsb 15 8).setWidth 32)) ∧
      (backed .read 2 (a + 2) t = true →
        memRead .load [.read] 2 (a + 2) t = .value ((v.extractLsb 31 16).setWidth 32))) ∧
    (memWrite [.write] 2 a v s = .ok t →
      t.mem.read a.toNat = some (v.extractLsb 7 0) ∧ t.mem.read (a.toNat + 1) = some (v.extractLsb 15 8))

/-- O15. From every state each multiply completes: rd (unless x0) holds the product modulo 2^32, or the floor of the
product over 2^32 (both signed; first signed and second unsigned; both unsigned); the pc moves 4; mul takes 1 or 2
cycles, mulh and mulhsu 18 to 20, mulhu 18; nothing else changes. (R190, R191, R192, R193, R416 in
70_reset_and_hazards.md) -/
def Obligations.MultiplyResults : Prop :=
  ∀ (s : State) (rd rs1 rs2 : Reg) (a b : Word), a = readReg rs1 s → b = readReg rs2 s →
    Does (.mul rd rs1 rs2) s (Computed 4 1 2 rd (BitVec.ofNat 32 (a.toNat * b.toNat)) s) ∧
    Does (.mulh rd rs1 rs2) s (Computed 4 18 20 rd (BitVec.ofInt 32 (a.toInt * b.toInt / 2 ^ 32)) s) ∧
    Does (.mulhsu rd rs1 rs2) s (Computed 4 18 20 rd (BitVec.ofInt 32 (a.toInt * (b.toNat : Int) / 2 ^ 32)) s) ∧
    Does (.mulhu rd rs1 rs2) s (Computed 4 18 18 rd (BitVec.ofNat 32 (a.toNat * b.toNat / 2 ^ 32)) s)

/-- O16. From every state each divide completes. Signed: by zero the quotient is -1 and the remainder the dividend;
-2^31 by -1 gives -2^31 and 0; else there are q and r with a = b q + r, |r| < |b| and r zero or of a's sign, q the
quotient and r the remainder. Unsigned: by zero all ones and the dividend, else floor and modulus. The pc moves 4; div
and rem take 18 or 19 cycles, divu and remu 18; nothing else changes. (R194, R195, R196, R197, R416 in
70_reset_and_hazards.md) -/
def Obligations.DivideResults : Prop :=
  ∀ (s : State) (rd rs1 rs2 : Reg) (a b : Word), a = readReg rs1 s → b = readReg rs2 s →
    (∃ q r : Int,
      (b = 0 → q = -1 ∧ r = a.toInt) ∧
      (b ≠ 0 → a.toInt = b.toInt * q + r ∧ |r| < |b.toInt| ∧ 0 ≤ r * a.toInt) ∧
      Does (.div rd rs1 rs2) s (Computed 4 18 19 rd (BitVec.ofInt 32 q) s) ∧
      Does (.rem rd rs1 rs2) s (Computed 4 18 19 rd (BitVec.ofInt 32 r) s)) ∧
    (a = 0x80000000#32 → b = 0xFFFFFFFF#32 →
      Does (.div rd rs1 rs2) s (Computed 4 18 19 rd 0x80000000#32 s) ∧
      Does (.rem rd rs1 rs2) s (Computed 4 18 19 rd 0 s)) ∧
    Does (.divu rd rs1 rs2) s
      (Computed 4 18 18 rd (if b = 0 then 0xFFFFFFFF#32 else BitVec.ofNat 32 (a.toNat / b.toNat)) s) ∧
    Does (.remu rd rs1 rs2) s (Computed 4 18 18 rd (if b = 0 then a else BitVec.ofNat 32 (a.toNat % b.toNat)) s)

/-- O17. Every row of rule R198's two tables: with these values in rs1 and rs2, each instruction completes with the
table's value in rd, whatever the registers are. The rows for any a by zero, zero by any b that is not zero, and zero
times any b are stated for every such value. (R198) -/
def Obligations.SignCombinationTable : Prop :=
  (∀ row ∈ [(7#32, 2#32, 3#32, 1#32, 3#32, 1#32),
      (0xFFFFFFF9#32, 2#32, 0xFFFFFFFD#32, 0xFFFFFFFF#32, 0x7FFFFFFC#32, 1#32),
      (7#32, 0xFFFFFFFE#32, 0xFFFFFFFD#32, 1#32, 0#32, 7#32),
      (0xFFFFFFF9#32, 0xFFFFFFFE#32, 3#32, 0xFFFFFFFF#32, 0#32, 0xFFFFFFF9#32),
      (0x80000000#32, 0xFFFFFFFF#32, 0x80000000#32, 0#32, 0#32, 0x80000000#32)],
    GivesResult .div row.1 row.2.1 row.2.2.1 ∧ GivesResult .rem row.1 row.2.1 row.2.2.2.1 ∧
    GivesResult .divu row.1 row.2.1 row.2.2.2.2.1 ∧ GivesResult .remu row.1 row.2.1 row.2.2.2.2.2) ∧
  (∀ a : Word, GivesResult .div a 0 0xFFFFFFFF ∧ GivesResult .rem a 0 a ∧ GivesResult .divu a 0 0xFFFFFFFF ∧
    GivesResult .remu a 0 a) ∧
  (∀ b : Word, b ≠ 0 → GivesResult .div 0 b 0 ∧ GivesResult .rem 0 b 0 ∧ GivesResult .divu 0 b 0 ∧
    GivesResult .remu 0 b 0) ∧
  (∀ row ∈ [(0xFFFFFFFF#32, 0xFFFFFFFF#32, 0x00000001#32, 0x00000000#32, 0xFFFFFFFF#32, 0xFFFFFFFE#32),
      (0x80000000#32, 0x80000000#32, 0x00000000#32, 0x40000000#32, 0xC0000000#32, 0x40000000#32),
      (0x80000000#32, 0x7FFFFFFF#32, 0x80000000#32, 0xC0000000#32, 0xC0000000#32, 0x3FFFFFFF#32),
      (0x7FFFFFFF#32, 0x80000000#32, 0x80000000#32, 0xC0000000#32, 0x3FFFFFFF#32, 0x3FFFFFFF#32)],
    GivesResult .mul row.1 row.2.1 row.2.2.1 ∧ GivesResult .mulh row.1 row.2.1 row.2.2.2.1 ∧
    GivesResult .mulhsu row.1 row.2.1 row.2.2.2.2.1 ∧ GivesResult .mulhu row.1 row.2.1 row.2.2.2.2.2) ∧
  (∀ b : Word, GivesResult .mul 0 b 0 ∧ GivesResult .mulh 0 b 0 ∧ GivesResult .mulhsu 0 b 0 ∧ GivesResult .mulhu 0 b 0)

/-- O18. If the address x[rs1] is aligned, backed and holds the word v, lr.w completes: rd (unless x0) holds v, the pc
moves 4, 1 or 2 cycles are charged, one answer of the global monitor is used and the local monitor is set when it is
granted and clear when it is refused; no other register, no CSR and no byte of memory changes. What the global monitor
answers past the listed answers is free. That both kinds must be backed is deduced (log 9). (R211, R61 in
20_memory.md, R41 in 10_state.md, R413 in 70_reset_and_hazards.md) -/
def Obligations.LoadReservedReadsAndReserves : Prop :=
  ∀ (s : State) (rd rs1 : Reg) (aq rl : Bool) (v : Word),
    Permitted exclusiveReadKinds 4 (readReg rs1 s) s → HoldsAt 4 (readReg rs1 s) v s →
    Does (.lrW rd rs1 aq rl) s fun t =>
      Wrote rd v t ∧ t.pc = s.pc + 4 ∧ Took 1 2 s t ∧ KeepsRegs [rd] s t ∧ KeepsCsrs s t ∧ KeepsMemory s t ∧
      (∀ g rest, s.monitorReads = g :: rest → t.monitorReads = rest ∧ t.lm = decide (g = .granted)) ∧
      t.monitorWrites = s.monitorWrites

/-- O19. At an aligned address sc.w completes in three ways. With the local monitor clear: rd holds 1, memory is
unchanged and the global monitor is not asked, whatever the map says. With it set and the answer lost: rd holds 1 and
memory is unchanged. With it set, the answer ok and the write backed: rd holds 0, the four bytes of rs2 are at the
address and no other byte changes. Each way the local monitor ends clear, the pc moves 4, 1 or 2 cycles are charged,
and no other register and no CSR changes. That both kinds must be backed is deduced (log 9). (R212, R61 in
20_memory.md, R41 in 10_state.md, R222 in 44_a_extension.md) -/
def Obligations.StoreConditionalOutcomes : Prop :=
  ∀ (s : State) (rd rs2 rs1 : Reg) (aq rl : Bool) (writes : List WriteAnswer), (readReg rs1 s).toNat % 4 = 0 →
    (s.lm = false → Does (.scW rd rs2 rs1 aq rl) s fun t =>
      DidSc rd 1 s t ∧ KeepsMemory s t ∧ t.monitorWrites = s.monitorWrites) ∧
    (s.lm = true → s.monitorWrites = .lost :: writes → Does (.scW rd rs2 rs1 aq rl) s fun t =>
      DidSc rd 1 s t ∧ KeepsMemory s t ∧ t.monitorWrites = writes) ∧
    (s.lm = true → s.monitorWrites = .ok :: writes → Permitted exclusiveWriteKinds 4 (readReg rs1 s) s →
      Does (.scW rd rs2 rs1 aq rl) s fun t =>
        DidSc rd 0 s t ∧ Stored 4 (readReg rs1 s) (readReg rs2 s) s t ∧ t.monitorWrites = writes)

/-- O20. If the address x[rs1] is aligned, backed for the read and the write, and holds the word old, and the global
monitor grants k + 1 reads and answers the writes k times lost and then ok, each AMO completes: rd (unless x0) holds
old, the word at the address is the instruction's operation on old and the old rs2 (swap, wrapping sum, xor, and, or,
signed and unsigned minimum and maximum), no other byte of memory, register or CSR changes, the local monitor is
untouched, the pc moves 4, and 4 (k + 1) cycles are charged. That all k + 1 attempts are one step is the model's
choice (log 7). (R213, R214, R215, R216, R217, R218, R219, R220, R221, R62 in 20_memory.md, R415 in
70_reset_and_hazards.md, R41 in 10_state.md) -/
def Obligations.AmoResultsAfterRetries : Prop :=
  ∀ (s : State) (rd rs2 rs1 : Reg) (aq rl : Bool) (addr old src : Word) (k : Nat) (reads : List ReadAnswer)
    (writes : List WriteAnswer), addr = readReg rs1 s → src = readReg rs2 s →
    Permitted (exclusiveReadKinds ++ exclusiveWriteKinds) 4 addr s → HoldsAt 4 addr old s →
    s.monitorReads = List.replicate (k + 1) .granted ++ reads →
    s.monitorWrites = List.replicate k .lost ++ .ok :: writes →
    Does (.amoswapW rd rs2 rs1 aq rl) s (DidAmo rd addr old src (k + 1) reads writes s) ∧
    Does (.amoaddW rd rs2 rs1 aq rl) s
      (DidAmo rd addr old (BitVec.ofNat 32 (old.toNat + src.toNat)) (k + 1) reads writes s) ∧
    Does (.amoxorW rd rs2 rs1 aq rl) s (DidAmo rd addr old (old ^^^ src) (k + 1) reads writes s) ∧
    Does (.amoandW rd rs2 rs1 aq rl) s (DidAmo rd addr old (old &&& src) (k + 1) reads writes s) ∧
    Does (.amoorW rd rs2 rs1 aq rl) s (DidAmo rd addr old (old ||| src) (k + 1) reads writes s) ∧
    Does (.amominW rd rs2 rs1 aq rl) s
      (DidAmo rd addr old (if old.toInt < src.toInt then old else src) (k + 1) reads writes s) ∧
    Does (.amomaxW rd rs2 rs1 aq rl) s
      (DidAmo rd addr old (if old.toInt < src.toInt then src else old) (k + 1) reads writes s) ∧
    Does (.amominuW rd rs2 rs1 aq rl) s
      (DidAmo rd addr old (if old.toNat < src.toNat then old else src) (k + 1) reads writes s) ∧
    Does (.amomaxuW rd rs2 rs1 aq rl) s
      (DidAmo rd addr old (if old.toNat < src.toNat then src else old) (k + 1) reads writes s)

/-- O21. Every AMO: at a misaligned address the trap with code 6; at an aligned one the map does not back for the
read, the trap with code 7; when, after k lost attempts, the global monitor refuses the read, the trap with code 7;
when the read is granted and the write answered ok but the map does not back the write, the trap with code 7. No trap
writes memory or rd or touches the local monitor. That both kinds must be backed is deduced (log 9). (R62 in
20_memory.md, R366 in 60_exceptions.md, R58 in 20_memory.md, R55 in 20_memory.md, R369 in 60_exceptions.md, R370 in
60_exceptions.md) -/
def Obligations.AmoTraps : Prop :=
  ∀ (s : State) (rd rs2 rs1 : Reg) (aq rl : Bool) (addr old : Word) (k : Nat) (reads : List ReadAnswer)
    (writes : List WriteAnswer), addr = readReg rs1 s → ∀ i ∈ amoInstrs rd rs2 rs1 aq rl,
    (addr.toNat % 4 ≠ 0 → Does i s (Trapped 6 s)) ∧
    (Unbacked exclusiveReadKinds 4 addr s → Does i s (Trapped 7 s)) ∧
    (Permitted exclusiveReadKinds 4 addr s → HoldsAt 4 addr old s →
      s.monitorReads = List.replicate k .granted ++ .refused :: reads →
      s.monitorWrites = List.replicate k .lost ++ writes → Does i s (Trapped 7 s)) ∧
    (Permitted exclusiveReadKinds 4 addr s → HoldsAt 4 addr old s → Unbacked exclusiveWriteKinds 4 addr s →
      s.monitorReads = .granted :: reads → s.monitorWrites = .ok :: writes → Does i s (Trapped 7 s))

/-- O22. If a step of an AMO answers a next state, then either it completed (the word read is in rd, the AMO's
operation on it and the old rs2 is the word at the address, no other byte changed, the pc moved 4, a positive multiple
of 4 cycles was charged), or it took the trap with code 6 or 7, or every attempt it made was lost: registers, CSRs,
memory, local monitor and pc are unchanged and the next step tries again (the pause between steps is the model's
choice, log 7). (R62 in 20_memory.md, R222 in 44_a_extension.md, R371 in 60_exceptions.md) -/
def Obligations.AmoAllOrNothing : Prop :=
  ∀ (s t : State) (rd rs2 rs1 : Reg) (aq rl : Bool) (addr : Word), addr = readReg rs1 s →
    ∀ e ∈ amoOperations rd rs2 rs1 aq rl, exec e.1 s = .next t →
    (∃ old n reads writes, HoldsAt 4 addr old s ∧ 0 < n ∧
      DidAmo rd addr old (e.2 old (readReg rs2 s)) n reads writes s t) ∨
    Trapped 6 s t ∨ Trapped 7 s t ∨
    (t.pc = s.pc ∧ KeepsRegs [] s t ∧ KeepsCsrs s t ∧ KeepsMemory s t ∧ t.lm = s.lm)

/-- O23. For each of the six modelled CSRs and every state, csrrw and csrrwi complete: rd (unless x0) holds the value
the CSR reads as (for mcause after an illegal write any value), the CSR's writable fields take rs1's old value or the
zero-extended immediate, the pc moves 4, 1 cycle is charged, and no other CSR, register, monitor or byte of memory
changes. (R281, R284, R280 in 46_zicsr_privileged.md, R30 in 10_state.md, R31 in 10_state.md, R32 in 10_state.md, R33
in 10_state.md, R34 in 10_state.md, R35 in 10_state.md) -/
def Obligations.CsrSwapWrites : Prop :=
  ∀ (s : State) (rd rs1 : Reg) (uimm : BitVec 5), ∀ e ∈ csrTable,
    (∃ old, CsrReads e.2 old s ∧ Does (.csrrw rd e.1 rs1) s (DidCsr e.2 rd old (some (readReg rs1 s)) s)) ∧
    (∃ old, CsrReads e.2 old s ∧ Does (.csrrwi rd e.1 uimm) s (DidCsr e.2 rd old (some (uimm.setWidth 32)) s))

/-- O24. For each of the six modelled CSRs and every state, the four complete: rd (unless x0) holds the value the CSR
reads as (for mcause after an illegal write any value), and that value with the bits of rs1's old value or of the
zero-extended immediate set or cleared is written, unless rs1 is register number 0 or the immediate is 0; the pc moves
4, 1 cycle is charged, and nothing else changes. (R282, R283, R285, R286, R280 in 46_zicsr_privileged.md) -/
def Obligations.CsrSetAndClearBits : Prop :=
  ∀ (s : State) (rd rs1 : Reg) (uimm : BitVec 5), ∀ e ∈ csrTable,
    (∃ old, CsrReads e.2 old s ∧ Does (.csrrs rd e.1 rs1) s
      (DidCsr e.2 rd old (if rs1 = 0 then none else some (old ||| readReg rs1 s)) s)) ∧
    (∃ old, CsrReads e.2 old s ∧ Does (.csrrc rd e.1 rs1) s
      (DidCsr e.2 rd old (if rs1 = 0 then none else some (old &&& ~~~ readReg rs1 s)) s)) ∧
    (∃ old, CsrReads e.2 old s ∧ Does (.csrrsi rd e.1 uimm) s
      (DidCsr e.2 rd old (if uimm = 0 then none else some (old ||| uimm.setWidth 32)) s)) ∧
    (∃ old, CsrReads e.2 old s ∧ Does (.csrrci rd e.1 uimm) s
      (DidCsr e.2 rd old (if uimm = 0 then none else some (old &&& ~~~ uimm.setWidth 32)) s))

/-- O25. Each of the six CSR instructions, with a csr address other than 0x300, 0x305, 0x340, 0x341, 0x342, 0x343, is
refused by the model, whatever its other operands. (R36) -/
def Obligations.UnknownCsrRefused : Prop :=
  ∀ (s : State) (rd rs1 : Reg) (uimm : BitVec 5) (csr : BitVec 12),
    csr ∉ [0x300#12, 0x305#12, 0x340#12, 0x341#12, 0x342#12, 0x343#12] →
    ∀ i ∈ [Instr.csrrw rd csr rs1, .csrrs rd csr rs1, .csrrc rd csr rs1, .csrrwi rd csr uimm, .csrrsi rd csr uimm,
      .csrrci rd csr uimm], exec i s = .refused (.unknownCsr csr)

/-- O26. After CsrWrite of v: mstatus reads 0x1800 with bits 3 and 7 of v; mtvec reads v with bit 1 clear; mepc reads
v with bit 0 clear; mscratch and mtval read v; mcause reads v if v is a code of the exception table, 0 among them
(deduced, log 31), and a free value otherwise. (R30 in 10_state.md, R31 in 10_state.md, R32 in 10_state.md, R33 in
10_state.md, R34 in 10_state.md, R35 in 10_state.md, R280 in 46_zicsr_privileged.md) -/
def Obligations.CsrWritesReadBack : Prop :=
  ∀ (s : State) (v : Word),
    csrValue .mstatus (csrWrite .mstatus v s) = 0x00001800#32 ||| (v &&& 0x00000088#32) ∧
    csrValue .mtvec (csrWrite .mtvec v s) = v &&& 0xFFFFFFFD#32 ∧
    csrValue .mepc (csrWrite .mepc v s) = v &&& 0xFFFFFFFE#32 ∧
    csrValue .mscratch (csrWrite .mscratch v s) = v ∧ csrValue .mtval (csrWrite .mtval v s) = v ∧
    (v ∈ [0#32, 1#32, 2#32, 3#32, 4#32, 5#32, 6#32, 7#32, 11#32] → csrValue .mcause (csrWrite .mcause v s) = v) ∧
    (v ∉ [0#32, 1#32, 2#32, 3#32, 4#32, 5#32, 6#32, 7#32, 11#32] →
      csrValue .mcause (csrWrite .mcause v s) = Config.freeWord s.draws)

/-- O27. The word 0x00000073 decodes to ecall, and no other word does. From every state ecall takes the trap with code
11: mepc is its own address, mcause 11, MPIE takes MIE, MIE is cleared, the pc is {mtvec.BASE, 00}, a multiple of 4; 3
cycles are charged; no general register, no memory and no monitor changes. (R287) -/
def Obligations.EcallTraps : Prop :=
  (∀ w : Word, decode32 w = some .ecall ↔ w = 0x00000073#32) ∧
  ∀ s : State, Does .ecall s fun t =>
    Trapped 11 s t ∧ t.pc.toNat % 4 = 0 ∧ t.cycles = s.cycles + 3 ∧ KeepsMonitors s t

/-- O28. From every state ebreak and c.ebreak take the trap with code 3, mepc holding the instruction's own address,
in 3 cycles, and never enter a debug mode; no general register, no memory and no monitor changes. The word 0x00100073
is ebreak and the parcel 0x9002 is c.ebreak. (R288, R266, R384 in 60_exceptions.md, R418 in 70_reset_and_hazards.md)
-/
def Obligations.BreakpointTraps : Prop :=
  decode32 0x00100073#32 = some .ebreak ∧ decode16 0x9002#16 = some .cEbreak ∧
  ∀ s : State,
    Does .ebreak s (fun t => Trapped 3 s t ∧ t.cycles = s.cycles + 3 ∧ KeepsMonitors s t) ∧
    Does .cEbreak s (fun t => Trapped 3 s t ∧ t.cycles = s.cycles + 3 ∧ KeepsMonitors s t)

/-- O29. For each of the eight exceptions, taking it from any state writes mepc with the pc (bit 0 cleared), mcause
with the table's code, MPIE with MIE, MIE with 0 and the pc with {mtvec.BASE, 00} whatever mtvec's mode bit; it
changes no general register, no memory, no monitor and, but for mtval (a free value), no other CSR. Only the cycles
and the model's count of free values change beside. What it costs is not said here. (R370 in 60_exceptions.md, R360 in
60_exceptions.md, R361 in 60_exceptions.md, R30 in 10_state.md) -/
def Obligations.TrapEntrySaves : Prop :=
  ∀ (s : State) (info : Word),
    ∀ c ∈ [(1#32, Exception.instructionAccessFault info), (2#32, .illegalInstruction info), (3#32, .breakpoint),
      (4#32, .loadAddressMisaligned info), (5#32, .loadAccessFault info), (6#32, .storeAmoAddressMisaligned info),
      (7#32, .storeAmoAccessFault info), (11#32, .environmentCallFromMMode)],
    Trapped c.1 s (takeTrap c.2 s) ∧ KeepsMonitors s (takeTrap c.2 s)

/-- O30. From every state mret completes: the pc is mepc, MIE is the old MPIE, MPIE is 1; the other CSRs, every
general register, the monitors and memory are unchanged. The word 0x30200073 is mret. (R352, R372 in 60_exceptions.md)
-/
def Obligations.MretReturns : Prop :=
  decode32 0x30200073#32 = some .mret ∧
  ∀ s : State, Does .mret s fun t =>
    t.pc = s.mepc ∧ t.mstatus = { mie := s.mstatus.mpie, mpie := true } ∧ t.mtvec = s.mtvec ∧
    t.mscratch = s.mscratch ∧ t.mepc = s.mepc ∧ t.mcause = s.mcause ∧ t.mtval = s.mtval ∧ KeepsRegs [] s t ∧
    KeepsMonitors s t ∧ KeepsMemory s t

/-- O31. From every state with an even pc (what every reachable state has), taking any exception and then executing
mret gives a state with the same pc, the same MIE, registers, memory, mtvec and mscratch; mepc holds the pc and MPIE
is 1. (R370 in 60_exceptions.md, R352 in 49_unlisted_fence_mret_wfi.md, R372 in 60_exceptions.md) -/
def Obligations.TrapThenReturnRestores : Prop :=
  ∀ (s : State) (e : Exception), s.pc.getLsbD 0 = false →
    Does .mret (takeTrap e s) fun t =>
      t.pc = s.pc ∧ t.mepc = s.pc ∧ t.mstatus = { mie := s.mstatus.mie, mpie := true } ∧ t.mtvec = s.mtvec ∧
      t.mscratch = s.mscratch ∧ KeepsRegs [] s t ∧ KeepsMemory s t ∧ t.lm = s.lm

/-- O32. From every state, with every value of the fields they ignore, fence, fence.i and wfi complete: the pc moves
4; registers, CSRs, monitors and memory are unchanged; after fence.i no byte counts as stored to, after fence and wfi
the same bytes do. Their cycle counts are not in the source and are free. (R350, R351, R353, R46 in 10_state.md, R66
in 20_memory.md) -/
def Obligations.FencesAndWaitAdvance : Prop :=
  ∀ (s : State) (fm pred succ : BitVec 4) (imm : BitVec 12) (rs1 rd : Reg),
    Does (.fence fm pred succ rs1 rd) s (fun t => t.pc = s.pc + 4 ∧ KeepsAllBut [] s t) ∧
    Does .wfi s (fun t => t.pc = s.pc + 4 ∧ KeepsAllBut [] s t) ∧
    Does (.fenceI imm rs1 rd) s (fun t => t.pc = s.pc + 4 ∧ t.storedSinceFenceI = [] ∧ KeepsRegs [] s t ∧
      KeepsCsrs s t ∧ KeepsMonitors s t ∧ (∀ a, t.mem.read a = s.mem.read a) ∧ t.memMap = s.memMap)

/-- O33. From every state each completes with x[rs2] + 2 x[rs1], + 4 x[rs1] or + 8 x[rs1] modulo 2^32 in rd (unless
x0), the pc moved 4, 1 cycle charged and nothing else changed. (R301, R302, R303, R300 in 47_bitmanip_zba_zbb.md) -/
def Obligations.ShiftAddResults : Prop :=
  ∀ (s : State) (rd rs1 rs2 : Reg) (a b : Word), a = readReg rs1 s → b = readReg rs2 s →
    Does (.sh1add rd rs1 rs2) s (Computed 4 1 1 rd (BitVec.ofNat 32 (b.toNat + 2 * a.toNat)) s) ∧
    Does (.sh2add rd rs1 rs2) s (Computed 4 1 1 rd (BitVec.ofNat 32 (b.toNat + 4 * a.toNat)) s) ∧
    Does (.sh3add rd rs1 rs2) s (Computed 4 1 1 rd (BitVec.ofNat 32 (b.toNat + 8 * a.toNat)) s)

/-- O34. From every state each completes in 1 cycle with its result in rd (unless x0), the pc moved 4 and nothing else
changed: andn and orn complement rs2, xnor is the complement of xor, max and min compare as signed, maxu and minu as
unsigned. (R304, R308, R309, R310, R311, R313, R320, R300 in 47_bitmanip_zba_zbb.md) -/
def Obligations.LogicAndMinMaxResults : Prop :=
  ∀ (s : State) (rd rs1 rs2 : Reg) (a b : Word), a = readReg rs1 s → b = readReg rs2 s →
    Does (.andn rd rs1 rs2) s (Computed 4 1 1 rd (a &&& ~~~b) s) ∧
    Does (.orn rd rs1 rs2) s (Computed 4 1 1 rd (a ||| ~~~b) s) ∧
    Does (.xnor rd rs1 rs2) s (Computed 4 1 1 rd (~~~(a ^^^ b)) s) ∧
    Does (.max rd rs1 rs2) s (Computed 4 1 1 rd (BitVec.ofInt 32 (Max.max a.toInt b.toInt)) s) ∧
    Does (.min rd rs1 rs2) s (Computed 4 1 1 rd (BitVec.ofInt 32 (Min.min a.toInt b.toInt)) s) ∧
    Does (.maxu rd rs1 rs2) s (Computed 4 1 1 rd (BitVec.ofNat 32 (Max.max a.toNat b.toNat)) s) ∧
    Does (.minu rd rs1 rs2) s (Computed 4 1 1 rd (BitVec.ofNat 32 (Min.min a.toNat b.toNat)) s)

/-- O35. From every state clz completes with the number n such that the n highest bits of rs1 are 0 and the next, if
any, is 1; ctz with the same counted from the lowest bit; cpop with the number of positions that hold 1. Each takes 1
cycle, moves the pc 4, writes rd (unless x0) and changes nothing else. (R305, R306, R307, R300 in
47_bitmanip_zba_zbb.md) -/
def Obligations.BitCountResults : Prop :=
  ∀ (s : State) (rd rs1 : Reg) (a : Word), a = readReg rs1 s →
    (∃ n ≤ 32, (∀ i < n, a.getLsbD (31 - i) = false) ∧ (n < 32 → a.getLsbD (31 - n) = true) ∧
      Does (.clz rd rs1) s (Computed 4 1 1 rd (BitVec.ofNat 32 n) s)) ∧
    (∃ n ≤ 32, (∀ i < n, a.getLsbD i = false) ∧ (n < 32 → a.getLsbD n = true) ∧
      Does (.ctz rd rs1) s (Computed 4 1 1 rd (BitVec.ofNat 32 n) s)) ∧
    Does (.cpop rd rs1) s
      (Computed 4 1 1 rd (BitVec.ofNat 32 (Finset.univ.filter fun i : Fin 32 => a.getLsbD i.val = true).card) s)

/-- O36. From every state each completes in 1 cycle with its result in rd (unless x0), the pc moved 4 and nothing else
changed. orc.b makes each byte 0x00 or 0xFF as it was zero or not; rev8 exchanges byte i and byte 3 - i; the
extensions copy bit 7, bit 15 or 0 upwards; a rotation by n (modulo 32) takes bit i to bit i + n or i - n modulo 32.
(R312, R314, R315, R316, R317, R318, R319, R321, R300 in 47_bitmanip_zba_zbb.md) -/
def Obligations.ByteAndRotateResults : Prop :=
  ∀ (s : State) (rd rs1 rs2 : Reg) (shamt : BitVec 5) (a b : Word), a = readReg rs1 s → b = readReg rs2 s →
    (∃ v : Word, (∀ i < 4, (v >>> (8 * i)).setWidth 8 = if (a >>> (8 * i)).setWidth 8 = 0#8 then 0x00#8 else 0xFF#8) ∧
      Does (.orcB rd rs1) s (Computed 4 1 1 rd v s)) ∧
    (∃ v : Word, (∀ i < 4, (v >>> (8 * i)).setWidth 8 = (a >>> (8 * (3 - i))).setWidth 8) ∧
      Does (.rev8 rd rs1) s (Computed 4 1 1 rd v s)) ∧
    Does (.sextB rd rs1) s (Computed 4 1 1 rd ((a.setWidth 8).signExtend 32) s) ∧
    Does (.sextH rd rs1) s (Computed 4 1 1 rd ((a.setWidth 16).signExtend 32) s) ∧
    Does (.zextH rd rs1) s (Computed 4 1 1 rd ((a.setWidth 16).setWidth 32) s) ∧
    (∃ v : Word, (∀ i < 32, v.getLsbD ((i + b.toNat) % 32) = a.getLsbD i) ∧
      Does (.rol rd rs1 rs2) s (Computed 4 1 1 rd v s)) ∧
    (∃ v : Word, (∀ i < 32, v.getLsbD i = a.getLsbD ((i + b.toNat) % 32)) ∧
      Does (.ror rd rs1 rs2) s (Computed 4 1 1 rd v s)) ∧
    (∃ v : Word, (∀ i < 32, v.getLsbD i = a.getLsbD ((i + shamt.toNat) % 32)) ∧
      Does (.rori rd rs1 shamt) s (Computed 4 1 1 rd v s))

/-- O37. There is a 64-bit p whose bit k is the parity of the number of i with b[i] = 1 and a[k - i] = 1, and from
every state the three complete in 1 cycle with p[31:0], p[63:32] and p[62:31] in rd (unless x0), the pc moved 4 and
nothing else changed. (R330, R331, R332, R300 in 47_bitmanip_zba_zbb.md) -/
def Obligations.CarrylessProductResults : Prop :=
  ∀ (s : State) (rd rs1 rs2 : Reg) (a b : Word), a = readReg rs1 s → b = readReg rs2 s →
    ∃ p : BitVec 64,
      (∀ k < 64, p.getLsbD k =
        (((List.range 32).countP fun i => b.getLsbD i && (decide (i ≤ k) && a.getLsbD (k - i))) % 2 == 1)) ∧
      Does (.clmul rd rs1 rs2) s (Computed 4 1 1 rd (p.extractLsb 31 0) s) ∧
      Does (.clmulh rd rs1 rs2) s (Computed 4 1 1 rd (p.extractLsb 63 32) s) ∧
      Does (.clmulr rd rs1 rs2) s (Computed 4 1 1 rd (p.extractLsb 62 31) s)

/-- O38. From every state each of the eight completes in 1 cycle with its result in rd (unless x0), the pc moved 4 and
nothing else changed. With index n (rs2 modulo 32, or the immediate): bclr, bset and binv give rs1 with bit n made 0,
made 1 or inverted and every other bit kept; bext gives 1 or 0 as bit n is 1 or 0. (R333, R334, R335, R336, R337,
R338, R339, R340, R342 in 48_bitmanip_zbc_zbs.md) -/
def Obligations.SingleBitResults : Prop :=
  ∀ (s : State) (rd rs1 rs2 : Reg) (shamt : BitVec 5) (a : Word) (n : Nat), a = readReg rs1 s →
    (n = (readReg rs2 s).toNat % 32 →
      (∃ v : Word, (∀ i < 32, v.getLsbD i = if i = n then false else a.getLsbD i) ∧
        Does (.bclr rd rs1 rs2) s (Computed 4 1 1 rd v s)) ∧
      (∃ v : Word, (∀ i < 32, v.getLsbD i = if i = n then true else a.getLsbD i) ∧
        Does (.bset rd rs1 rs2) s (Computed 4 1 1 rd v s)) ∧
      (∃ v : Word, (∀ i < 32, v.getLsbD i = if i = n then !a.getLsbD i else a.getLsbD i) ∧
        Does (.binv rd rs1 rs2) s (Computed 4 1 1 rd v s)) ∧
      Does (.bext rd rs1 rs2) s (Computed 4 1 1 rd (if a.getLsbD n then 1 else 0) s)) ∧
    (n = shamt.toNat →
      (∃ v : Word, (∀ i < 32, v.getLsbD i = if i = n then false else a.getLsbD i) ∧
        Does (.bclri rd rs1 shamt) s (Computed 4 1 1 rd v s)) ∧
      (∃ v : Word, (∀ i < 32, v.getLsbD i = if i = n then true else a.getLsbD i) ∧
        Does (.bseti rd rs1 shamt) s (Computed 4 1 1 rd v s)) ∧
      (∃ v : Word, (∀ i < 32, v.getLsbD i = if i = n then !a.getLsbD i else a.getLsbD i) ∧
        Does (.binvi rd rs1 shamt) s (Computed 4 1 1 rd v s)) ∧
      Does (.bexti rd rs1 shamt) s (Computed 4 1 1 rd (if a.getLsbD n then 1 else 0) s))

/-- O39. For all values: shNadd is b + 2a, b + 4a, b + 8a; andn, orn and xnor are a & ~b, a | ~b and ~(a ^ b) = a ^
~b; clz + ctz is at most 31 for a value that is not 0 and both are 32 for 0; cpop is 0 exactly for 0; rol by n is ror
by (32 - n) mod 32; rev8 is its own inverse; orc.b is idempotent; min + max = a + b, signed and unsigned; zext.h and
zext.b are masks; sext.b and sext.h are shift pairs. Each function named here is what its instruction writes to rd
(unless x0), from every state; zext.b is andi with 255. The rule is the spec's own derivation. (R323) -/
def Obligations.BitManipulationLaws : Prop :=
  ∀ (a b v : Word) (n : Nat), n < 32 →
    shiftAdd 1 a b = b + 2 * a ∧ shiftAdd 2 a b = b + 4 * a ∧ shiftAdd 3 a b = b + 8 * a ∧
    (∀ (s : State) (rd rs1 rs2 : Reg) (shamt : BitVec 5), a = readReg rs1 s → b = readReg rs2 s →
      Does (.sh1add rd rs1 rs2) s (Wrote rd (shiftAdd 1 a b)) ∧ Does (.sh2add rd rs1 rs2) s (Wrote rd (shiftAdd 2 a b)) ∧
      Does (.sh3add rd rs1 rs2) s (Wrote rd (shiftAdd 3 a b)) ∧
      Does (.clz rd rs1) s (Wrote rd (BitVec.ofNat 32 (clz32 a))) ∧
      Does (.ctz rd rs1) s (Wrote rd (BitVec.ofNat 32 (ctz32 a))) ∧
      Does (.cpop rd rs1) s (Wrote rd (BitVec.ofNat 32 (cpop32 a))) ∧
      Does (.rol rd rs1 rs2) s (Wrote rd (rol32 a (b.toNat % 32))) ∧
      Does (.ror rd rs1 rs2) s (Wrote rd (ror32 a (b.toNat % 32))) ∧
      Does (.rori rd rs1 shamt) s (Wrote rd (ror32 a shamt.toNat)) ∧
      Does (.rev8 rd rs1) s (Wrote rd (reverseBytes a)) ∧ Does (.orcB rd rs1) s (Wrote rd (orcBytes a)) ∧
      Does (.min rd rs1 rs2) s (Wrote rd (minSigned a b)) ∧ Does (.max rd rs1 rs2) s (Wrote rd (maxSigned a b)) ∧
      Does (.minu rd rs1 rs2) s (Wrote rd (minUnsigned a b)) ∧ Does (.maxu rd rs1 rs2) s (Wrote rd (maxUnsigned a b)) ∧
      Does (.zextH rd rs1) s (Wrote rd (zextHalf a)) ∧ Does (.sextB rd rs1) s (Wrote rd (sextByte a)) ∧
      Does (.sextH rd rs1) s (Wrote rd (sextHalf a)) ∧
      Does (.andn rd rs1 rs2) s (Wrote rd (a &&& ~~~b)) ∧ Does (.orn rd rs1 rs2) s (Wrote rd (a ||| ~~~b)) ∧
      Does (.xnor rd rs1 rs2) s (Wrote rd (~~~(a ^^^ b))) ∧
      Does (.andi rd rs1 0xFF#12) s (Wrote rd (a &&& 0x000000FF#32))) ∧
    ~~~(a ^^^ b) = a ^^^ ~~~b ∧
    (v ≠ 0 → clz32 v + ctz32 v ≤ 31) ∧ clz32 0 = 32 ∧ ctz32 0 = 32 ∧ (cpop32 v = 0 ↔ v = 0) ∧
    rol32 v n = ror32 v ((32 - n) % 32) ∧ reverseBytes (reverseBytes v) = v ∧ orcBytes (orcBytes v) = orcBytes v ∧
    minSigned a b + maxSigned a b = a + b ∧ minUnsigned a b + maxUnsigned a b = a + b ∧
    zextHalf v = v &&& 0x0000FFFF#32 ∧
    sextByte v = (v <<< 24).sshiftRight 24 ∧ sextHalf v = (v <<< 16).sshiftRight 16

/-- O40. For all values and index n below 32, with m = 1 << n: bclr = a & ~m, bset = a | m, binv = a ^ m, bext is 1
exactly when a & m is not 0; extracting a set bit gives 1, a cleared bit 0; inverting twice changes nothing. The
carry-less product with 0 is 0, with 1 is a, with 1 << k is a << k, and distributes over exclusive or; the three
instructions return bits 31:0, 63:32 and 62:31 of it, so clmulr is clmulh shifted left by 1 with clmul's top bit. Each
function named here is what its instruction writes to rd (unless x0), from every state, with index rs2 modulo 32 or
the immediate. The rule is the spec's own derivation. (R341, R342 in 48_bitmanip_zbc_zbs.md) -/
def Obligations.CarrylessAndBitLaws : Prop :=
  ∀ (a b c m : Word) (n k : Nat), n < 32 → k < 32 → m = 1#32 <<< n →
    (∀ (s : State) (rd rs1 rs2 : Reg) (shamt : BitVec 5), a = readReg rs1 s → b = readReg rs2 s →
      Does (.clmul rd rs1 rs2) s (Wrote rd (clmulLow a b)) ∧ Does (.clmulh rd rs1 rs2) s (Wrote rd (clmulHigh a b)) ∧
      Does (.clmulr rd rs1 rs2) s (Wrote rd (clmulReversed a b)) ∧
      Does (.bclr rd rs1 rs2) s (Wrote rd (bitClear a (b.toNat % 32))) ∧
      Does (.bset rd rs1 rs2) s (Wrote rd (bitSet a (b.toNat % 32))) ∧
      Does (.binv rd rs1 rs2) s (Wrote rd (bitInvert a (b.toNat % 32))) ∧
      Does (.bext rd rs1 rs2) s (Wrote rd (bitExtract a (b.toNat % 32))) ∧
      Does (.bclri rd rs1 shamt) s (Wrote rd (bitClear a shamt.toNat)) ∧
      Does (.bseti rd rs1 shamt) s (Wrote rd (bitSet a shamt.toNat)) ∧
      Does (.binvi rd rs1 shamt) s (Wrote rd (bitInvert a shamt.toNat)) ∧
      Does (.bexti rd rs1 shamt) s (Wrote rd (bitExtract a shamt.toNat))) ∧
    bitClear a n = a &&& ~~~m ∧ bitSet a n = a ||| m ∧ bitInvert a n = a ^^^ m ∧
    bitExtract a n = (if a &&& m ≠ 0 then 1 else 0) ∧
    bitExtract (bitSet a n) n = 1 ∧ bitExtract (bitClear a n) n = 0 ∧ bitInvert (bitInvert a n) n = a ∧
    carrylessProduct a 0 = 0 ∧ carrylessProduct a 1 = a.setWidth 64 ∧
    carrylessProduct a (b ^^^ c) = carrylessProduct a b ^^^ carrylessProduct a c ∧
    carrylessProduct a (1#32 <<< k) = a.setWidth 64 <<< k ∧
    clmulLow a b = (carrylessProduct a b).extractLsb 31 0 ∧
    clmulHigh a b = (carrylessProduct a b).extractLsb 63 32 ∧
    clmulReversed a b = (carrylessProduct a b).extractLsb 62 31 ∧
    clmulReversed a b = (clmulHigh a b <<< 1) ||| (clmulLow a b >>> 31)

/-- O41. From every state c.addi4spn, c.nop, c.addi, c.li, c.addi16sp, c.lui, c.srli, c.srai, c.andi, c.sub, c.xor,
c.or, c.and, c.slli, c.mv and c.add complete in 1 cycle with the result of their expansion in the destination (unless
x0), the pc moved 2 and nothing else changed; the implied register is x2, and every immediate is extended as its rule
says. (R243, R246, R247, R249, R250, R251, R252, R253, R254, R255 to R258 in 45_c_extension.md, R262, R265 and R268 in
45_c_extension.md) -/
def Obligations.CompressedComputeResults : Prop :=
  ∀ (s : State) (rd rs2 : Reg) (imm : BitVec 6) (shamt : BitVec 5) (imm10 : BitVec 10) (a b : Word),
    a = readReg rd s → b = readReg rs2 s →
    Does (.cAddi4spn rd imm10) s (Computed 2 1 1 rd (BitVec.ofNat 32 ((readReg 2 s).toNat + imm10.toNat)) s) ∧
    Does (.cNop imm) s (fun t => t.pc = s.pc + 2 ∧ t.cycles = s.cycles + 1 ∧ KeepsAllBut [] s t) ∧
    Does (.cAddi rd imm) s (Computed 2 1 1 rd (BitVec.ofInt 32 (a.toInt + imm.toInt)) s) ∧
    Does (.cLi rd imm) s (Computed 2 1 1 rd (BitVec.ofInt 32 imm.toInt) s) ∧
    Does (.cAddi16sp imm10) s (Computed 2 1 1 2 (BitVec.ofInt 32 ((readReg 2 s).toInt + imm10.toInt)) s) ∧
    Does (.cLui rd imm) s (Computed 2 1 1 rd (BitVec.ofInt 32 (imm.toInt * 4096)) s) ∧
    Does (.cSrli rd shamt) s (Computed 2 1 1 rd (BitVec.ofNat 32 (a.toNat / 2 ^ shamt.toNat)) s) ∧
    Does (.cSrai rd shamt) s (Computed 2 1 1 rd (BitVec.ofInt 32 (a.toInt / 2 ^ shamt.toNat)) s) ∧
    Does (.cAndi rd imm) s (Computed 2 1 1 rd (a &&& imm.signExtend 32) s) ∧
    Does (.cSub rd rs2) s (Computed 2 1 1 rd (BitVec.ofInt 32 (a.toInt - b.toInt)) s) ∧
    Does (.cXor rd rs2) s (Computed 2 1 1 rd (a ^^^ b) s) ∧
    Does (.cOr rd rs2) s (Computed 2 1 1 rd (a ||| b) s) ∧
    Does (.cAnd rd rs2) s (Computed 2 1 1 rd (a &&& b) s) ∧
    Does (.cSlli rd shamt) s (Computed 2 1 1 rd (BitVec.ofNat 32 (a.toNat * 2 ^ shamt.toNat)) s) ∧
    Does (.cMv rd rs2) s (Computed 2 1 1 rd b s) ∧
    Does (.cAdd rd rs2) s (Computed 2 1 1 rd (BitVec.ofInt 32 (a.toInt + b.toInt)) s)

/-- O42. For every well-formed 16-bit instruction i and every state: i faults exactly where its expansion does and
neither is refused; where i completes, so does its expansion, and the two next states have the same registers (but for
x1 where i links), CSRs, monitors and memory; the pcs are equal, or both are past the instruction (2 and 4). (R242 in
45_c_extension.md, R240 in 45_c_extension.md) -/
def Obligations.CompressedIsItsExpansion : Prop :=
  ∀ (i : Instr) (s : State) (h : Half), encodeParcels i = .half h → i.wellFormed = true →
    (∀ f, exec i s = .fault f ↔ exec (expand i) s = .fault f) ∧
    (∀ r, exec i s ≠ .refused r ∧ exec (expand i) s ≠ .refused r) ∧
    (∀ t, exec i s = .next t → ∃ u, exec (expand i) s = .next u ∧
      KeepsRegs (if classOf i = .transfer then (destination i).toList else []) u t ∧ KeepsCsrs u t ∧
      KeepsMonitors u t ∧ KeepsMemory u t ∧ (t.pc = u.pc ∨ (t.pc = s.pc + 2 ∧ u.pc = s.pc + 4)))

/-- O43. If the bytes from the pc up, two or four of them and all below the top of the address space, hold values, are
backed for fetch and were not stored to since the last fence.i, and decode to i with nothing left over, then the step
from that state is exec i from that state. (R59 in 20_memory.md, R81 in 30_encoding.md, R369 in 60_exceptions.md) -/
def Obligations.StepRunsDecodedInstruction : Prop :=
  ∀ (s : State) (bs : List Byte) (i : Instr), CodeAt bs s → decode bs = .ok (i, []) → step s = exec i s

/-- O44. If the parcel at the pc does not have bits 1:0 = 11 and no row of width 16 hits it, or it does and no row of
width 32 hits the word of the two parcels at the pc, and those bytes can be fetched, the step takes the trap with code
2. (R95 in 30_encoding.md, R81 in 30_encoding.md, R242 in 45_c_extension.md, R270 in 45_c_extension.md, R354 in
49_unlisted_fence_mret_wfi.md) -/
def Obligations.IllegalEncodingTraps : Prop :=
  ∀ s : State,
    (∀ b0 b1 : Byte, CodeAt [b0, b1] s → isLong (parcelOf b0 b1) = false →
      (∀ r ∈ rows16, r.hits (parcelOf b0 b1) = false) → StepTraps 2 s) ∧
    (∀ b0 b1 b2 b3 : Byte, CodeAt [b0, b1, b2, b3] s → isLong (parcelOf b0 b1) = true →
      (∀ r ∈ rows32, r.hits (wordOf (parcelOf b0 b1) (parcelOf b2 b3)) = false) → StepTraps 2 s)

/-- O45. If the map does not back the two bytes at the pc for fetch, the step takes the trap with code 1. If it does,
the parcel there can be fetched and has bits 1:0 = 11, the pc is not 0xFFFFFFFE and the map does not back the two
bytes at pc + 2, the step takes the trap with code 1, mepc holding the pc, not pc + 2. That the map is asked before
the set of bytes stored to, and the first parcel whole before the second, is the model's choice (log 26). (R59 in
20_memory.md, R58 in 20_memory.md, R370 in 60_exceptions.md) -/
def Obligations.FetchAccessFaultTraps : Prop :=
  ∀ s : State,
    (backed .fetch 2 s.pc s = false → StepTraps 1 s) ∧
    (∀ b0 b1 : Byte, CodeAt [b0, b1] s → isLong (parcelOf b0 b1) = true → s.pc ≠ 0xFFFFFFFE#32 →
      backed .fetch 2 (s.pc + 2) s = false → StepTraps 1 s)

/-- O46. If the map backs the fetch at the pc and one of the two bytes there was stored to since the last fence.i, the
step is refused; likewise for the second parcel of a 32-bit instruction. A 32-bit instruction at 0xFFFFFFFE is
refused. A backed parcel, the first or the second, not stored to but with a byte that holds no value stops with the
model's fault for two bytes at the parcel (deduced, log 29). Where a refusal and a missing value could both apply the
refusal comes first (the model's choice, log 26). (R67 in 20_memory.md, R46 in 10_state.md, R27 in 10_state.md, R362
in 60_exceptions.md, R39 in 10_state.md) -/
def Obligations.FetchRefusals : Prop :=
  ∀ s : State,
    (backed .fetch 2 s.pc s = true →
      (s.pc.toNat ∈ s.storedSinceFenceI ∨ s.pc.toNat + 1 ∈ s.storedSinceFenceI) →
      step s = .refused (.fetchOfStoredBytes s.pc)) ∧
    (backed .fetch 2 s.pc s = true → s.pc.toNat ∉ s.storedSinceFenceI → s.pc.toNat + 1 ∉ s.storedSinceFenceI →
      (s.mem.read s.pc.toNat = none ∨ s.mem.read (s.pc.toNat + 1) = none) →
      step s = .fault (.memoryHoldsNoValue s.pc 2)) ∧
    (∀ b0 b1 : Byte, CodeAt [b0, b1] s → isLong (parcelOf b0 b1) = true →
      (s.pc = 0xFFFFFFFE#32 → step s = .refused .fetchStraddlesTop) ∧
      (s.pc ≠ 0xFFFFFFFE#32 → backed .fetch 2 (s.pc + 2) s = true →
        ((s.pc + 2).toNat ∈ s.storedSinceFenceI ∨ (s.pc + 2).toNat + 1 ∈ s.storedSinceFenceI) →
        step s = .refused (.fetchOfStoredBytes (s.pc + 2))) ∧
      (s.pc ≠ 0xFFFFFFFE#32 → backed .fetch 2 (s.pc + 2) s = true → (s.pc + 2).toNat ∉ s.storedSinceFenceI →
        (s.pc + 2).toNat + 1 ∉ s.storedSinceFenceI →
        (s.mem.read (s.pc + 2).toNat = none ∨ s.mem.read ((s.pc + 2).toNat + 1) = none) →
        step s = .fault (.memoryHoldsNoValue (s.pc + 2) 2)))

/-- O47. The words 0x002081B3, 0x123452B7, 0x0FF0F113, 0x003100E7, 0xFE209CE3, 0x00812283, 0xFE511F23, 0x0220C1B3,
0x1855232F, 0x305312F3, 0x6980D193, 0x0A20A1B3, 0x48709193, 0x0FF0000F and the parcels 0x4044, 0x713D, 0xC401, 0xC616
decode to what their rules' examples say. (30_encoding.md, R121, R151, R153, R177, R212, R281, R314, R332, R334, R250)
-/
def Obligations.SpecWordsDecode : Prop :=
  decodeTableWord 32 0x002081B3 = some (.add 3 1 2) ∧ decodeTableWord 32 0x123452B7 = some (.lui 5 0x12345#20) ∧
  decodeTableWord 32 0x0FF0F113 = some (.andi 2 1 0xFF#12) ∧ decodeTableWord 32 0x003100E7 = some (.jalr 1 2 3#12) ∧
  decodeTableWord 32 0xFE209CE3 = some (.bne 1 2 0x1FF8#13) ∧ decodeTableWord 32 0x00812283 = some (.lw 5 8#12 2) ∧
  decodeTableWord 32 0xFE511F23 = some (.sh 5 0xFFE#12 2) ∧ decodeTableWord 32 0x0220C1B3 = some (.div 3 1 2) ∧
  decodeTableWord 32 0x1855232F = some (.scW 6 5 10 false false) ∧
  decodeTableWord 32 0x305312F3 = some (.csrrw 5 0x305#12 6) ∧ decodeTableWord 32 0x6980D193 = some (.rev8 3 1) ∧
  decodeTableWord 32 0x0A20A1B3 = some (.clmulr 3 1 2) ∧ decodeTableWord 32 0x48709193 = some (.bclri 3 1 7#5) ∧
  decodeTableWord 32 0x0FF0000F = some (.fence 0 15 15 0 0) ∧ decodeTableWord 16 0x4044 = some (.cLw 9 4#7 8) ∧
  decodeTableWord 16 0x713D = some (.cAddi16sp 0x3E0#10) ∧ decodeTableWord 16 0xC401 = some (.cBeqz 8 8#9) ∧
  decodeTableWord 16 0xC616 = some (.cSwsp 5 12#8)

/-- O48. There are 100 rows of width 32, no word is hit by two of them, and every word one hits has bits 1:0 = 11.
There are 27 rows of width 16, with their constraints no parcel is hit by two of them, and no parcel one hits has bits
1:0 = 11. (R94 in 30_encoding.md, R242 in 45_c_extension.md) -/
def Obligations.RowsAreDisjoint : Prop :=
  rows32.length = 100 ∧ rows16.length = 27 ∧
  (∀ w : Word, rows32.Pairwise fun r q => ¬ (r.hits w = true ∧ q.hits w = true)) ∧
  (∀ w : Word, ∀ r ∈ rows32, r.hits w = true → w.extractLsb 1 0 = 3#2) ∧
  (∀ h : Half, rows16.Pairwise fun r q => ¬ (r.hits h = true ∧ q.hits h = true)) ∧
  (∀ h : Half, ∀ r ∈ rows16, r.hits h = true → h.extractLsb 1 0 ≠ 3#2)

/-- O49. The all-zero parcel, quadrant 0 with funct3 001, 011, 100, 101, 111 or a zero c.addi4spn immediate,
c.addi16sp and c.lui with immediate 0, the shifts with bit 12 set, quadrant 1 with bits 15:10 = 100111, c.lwsp with rd
= x0, c.jr with rs1 = x0, and quadrant 2 with funct3 001, 011, 101, 111 match no row. c.nop with an immediate, c.addi
with immediate 0, c.li, c.lui (immediate not 0), c.mv, c.add and c.slli with rd = x0, and the shifts by 0 match one.
(R270 in 45_c_extension.md, R97 in 30_encoding.md) -/
def Obligations.ReservedParcelsIllegal : Prop :=
  ∀ h : Half,
    (h = 0 → decode16 h = none) ∧
    (h.extractLsb 1 0 = 0#2 → h.extractLsb 15 13 ∈ [1#3, 3#3, 4#3, 5#3, 7#3] → decode16 h = none) ∧
    (h.extractLsb 1 0 = 0#2 → h.extractLsb 15 13 = 0#3 → h.extractLsb 12 5 = 0#8 → decode16 h = none) ∧
    (h.extractLsb 1 0 = 1#2 → h.extractLsb 15 13 = 3#3 → halfImm6 h = 0 → decode16 h = none) ∧
    (h.extractLsb 1 0 = 1#2 → h.extractLsb 15 13 = 4#3 → h.extractLsb 11 10 ∈ [0#2, 1#2] → h.getLsbD 12 = true →
      decode16 h = none) ∧
    (h.extractLsb 1 0 = 2#2 → h.extractLsb 15 13 = 0#3 → h.getLsbD 12 = true → decode16 h = none) ∧
    (h.extractLsb 1 0 = 1#2 → h.extractLsb 15 10 = 0x27#6 → decode16 h = none) ∧
    (h.extractLsb 1 0 = 2#2 → h.extractLsb 15 13 = 2#3 → halfReg h = 0 → decode16 h = none) ∧
    (h = 0x8002#16 → decode16 h = none) ∧
    (h.extractLsb 1 0 = 2#2 → h.extractLsb 15 13 ∈ [1#3, 3#3, 5#3, 7#3] → decode16 h = none) ∧
    (h.extractLsb 1 0 = 1#2 → h.extractLsb 15 13 = 0#3 → halfReg h = 0 → decode16 h = some (.cNop (halfImm6 h))) ∧
    (h.extractLsb 1 0 = 1#2 → h.extractLsb 15 13 = 0#3 → halfReg h ≠ 0 →
      decode16 h = some (.cAddi (halfReg h) (halfImm6 h))) ∧
    (h.extractLsb 1 0 = 1#2 → h.extractLsb 15 13 = 2#3 → decode16 h = some (.cLi (halfReg h) (halfImm6 h))) ∧
    (h.extractLsb 1 0 = 1#2 → h.extractLsb 15 13 = 3#3 → halfReg h ≠ 2 → halfImm6 h ≠ 0 →
      decode16 h = some (.cLui (halfReg h) (halfImm6 h))) ∧
    (h.extractLsb 1 0 = 2#2 → h.extractLsb 15 12 = 8#4 → halfRs2 h ≠ 0 → decode16 h = some (.cMv (halfReg h) (halfRs2 h))) ∧
    (h.extractLsb 1 0 = 2#2 → h.extractLsb 15 12 = 9#4 → halfRs2 h ≠ 0 → decode16 h = some (.cAdd (halfReg h) (halfRs2 h))) ∧
    (h.extractLsb 1 0 = 2#2 → h.extractLsb 15 12 = 0#4 → decode16 h = some (.cSlli (halfReg h) (h.extractLsb 6 2))) ∧
    (h.extractLsb 1 0 = 1#2 → h.extractLsb 15 10 = 0x20#6 → decode16 h = some (.cSrli (halfHigh h) (h.extractLsb 6 2))) ∧
    (h.extractLsb 1 0 = 1#2 → h.extractLsb 15 10 = 0x21#6 → decode16 h = some (.cSrai (halfHigh h) (h.extractLsb 6 2)))

/-- O50. For every well-formed instruction of all 127, with every operand at every value its encoding admits, decoding
its encoding followed by any bytes gives the instruction and exactly those bytes. (30_encoding.md R82 to R94,
45_c_extension.md R241 to R269, opcode_table.json) -/
def Obligations.DecodeInvertsEncode : Prop :=
  ∀ (i : Instr) (rest : List Byte), i.wellFormed = true → decode (encode i ++ rest) = .ok (i, rest)

/-- O51. If bytes decode to an instruction and a remainder, the instruction is well formed and the bytes are its
encoding followed by the remainder: no bit of an instruction is dropped, and no two encodings share an instruction.
(30_encoding.md R94 and R95, 45_c_extension.md R242) -/
def Obligations.EncodeInvertsDecode : Prop :=
  ∀ (bs rest : List Byte) (i : Instr), decode bs = .ok (i, rest) → i.wellFormed = true ∧ bs = encode i ++ rest

/-- O52. For every state that meets the invariant (the pc and mepc are even, memory and the set of bytes stored to
since fence.i are in canonical form, every byte in the set holds a value), if the step answers a next state, that
state meets it. (R26 in 10_state.md, R32 in 10_state.md, R46 in 10_state.md, R39 in 10_state.md) -/
def Obligations.StepKeepsInvariant : Prop :=
  ∀ s t : State, s.Inv → step s = .next t → t.Inv

/-- O53. After a launch the pc is RESET_VECTOR, mstatus reads 0x00001800, mtvec reads MTVEC_INIT with bit 1 clear, the
local monitor is clear, no cycle has passed, no byte counts as stored to, memory and the map are the launch's, x0
reads 0; if the reset vector is even and the image canonical the invariant holds; and State.reset is the launch of
Config. That the other general registers, mscratch, mepc, mcause and mtval are 0 (no value in the spec) is the model's
choice (logs 1, 2). (R45 in 10_state.md, R400 in 70_reset_and_hazards.md, R401 in 70_reset_and_hazards.md) -/
def Obligations.LaunchStateAndInvariant : Prop :=
  (∀ (l : Launch) (r : Reg),
    (State.launch l).pc = l.resetVector ∧ csrValue .mstatus (State.launch l) = 0x00001800#32 ∧
    csrValue .mtvec (State.launch l) = l.mtvecInit &&& 0xFFFFFFFD#32 ∧ (State.launch l).lm = false ∧
    (State.launch l).cycles = 0 ∧ (State.launch l).storedSinceFenceI = [] ∧ (State.launch l).mem = l.image ∧
    (State.launch l).memMap = l.memMap ∧ readReg r (State.launch l) = 0 ∧ (State.launch l).mscratch = 0 ∧
    (State.launch l).mepc = 0 ∧ (State.launch l).mcause = 0 ∧ (State.launch l).mtval = 0 ∧
    (LaunchOk l → (State.launch l).Inv)) ∧
  State.reset = State.launch Config.launch ∧ LaunchOk Config.launch

/-- O54. For every instruction and every state: if it answers a next state, every general register but its destination
holds what it held. Branches, stores, trap requests, fences, mret and wfi have none. (R22 in 10_state.md, R370 in
60_exceptions.md) -/
def Obligations.OnlyDestinationRegisterChanges : Prop :=
  ∀ (i : Instr) (s t : State), exec i s = .next t → ∀ r : Reg, destination i ≠ some r → readReg r t = readReg r s

/-- O55. For every instruction, state and register r that is neither among its sources nor its destination: with any
value v in r the instruction completes, faults or is refused exactly as before, and the next state is the same but for
r, which holds v. (R22 in 10_state.md) -/
def Obligations.UnnamedRegistersAreUnread : Prop :=
  ∀ (i : Instr) (s : State) (r : Reg) (v : Word), r ∉ sources i → destination i ≠ some r →
    (∀ t, exec i s = .next t → exec i (writeReg r v s) = .next (writeReg r v t)) ∧
    (∀ f, exec i s = .fault f → exec i (writeReg r v s) = .fault f) ∧
    (∀ f, exec i s = .refused f → exec i (writeReg r v s) = .refused f)

/-- O56. For every instruction and every state: if it answers a next state, the map is unchanged; unless it is a
store, an sc.w or an AMO, every byte of memory is unchanged, and unless it is also not fence.i, the set of bytes
stored to is unchanged. A step that traps at fetch or decode changes none of the three. (R39 in 10_state.md, R46 in
10_state.md, R56 in 20_memory.md, R58 in 20_memory.md) -/
def Obligations.OnlyStoresChangeMemory : Prop :=
  (∀ (i : Instr) (s t : State), exec i s = .next t →
    t.memMap = s.memMap ∧
    (classOf i ∉ [.store, .storeConditional, .amo] → t.mem = s.mem ∧
      (classOf i ≠ .fenceI → t.storedSinceFenceI = s.storedSinceFenceI))) ∧
  (∀ (s t : State) (e : Exception), fetchInstr s = .raises e → step s = .next t → KeepsMemory s t)

/-- O57. For every instruction and every state, if it answers a next state: unless it is a CSR instruction or mret,
the six CSRs are unchanged or a trap was taken with one of the codes 3, 4, 5, 6, 7, 11; mtvec and mscratch change only
by a CSR instruction; the local monitor changes only by lr.w or sc.w, and sc.w never sets it. (R29 in 10_state.md, R41
in 10_state.md, R370 in 60_exceptions.md) -/
def Obligations.SystemStateChangesOnlyByItsInstructions : Prop :=
  ∀ (i : Instr) (s t : State), exec i s = .next t →
    (classOf i ∉ [.csr, .mret] →
      KeepsCsrs s t ∨ ∃ code ∈ [3#32, 4#32, 5#32, 6#32, 7#32, 11#32], Trapped code s t) ∧
    (classOf i ≠ .csr → t.mtvec = s.mtvec ∧ t.mscratch = s.mscratch) ∧
    (classOf i ∉ [.loadReserved, .storeConditional] → t.lm = s.lm) ∧
    (classOf i = .storeConditional → t.lm = true → s.lm = true)

/-- O58. For every state and every number n: if the step answers a next state t, then from the same state with n
cycles counted it answers t with n plus the cycles the step took; if it faults or is refused, it still does, for the
same reason. (R14) -/
def Obligations.CycleCountIsUnread : Prop :=
  ∀ (s : State) (n : Nat),
    (∀ t, step s = .next t → s.cycles ≤ t.cycles ∧
      step (s.setCycles n) = .next (t.setCycles (n + (t.cycles - s.cycles)))) ∧
    (∀ f, step s = .fault f → step (s.setCycles n) = .fault f) ∧
    (∀ r, step s = .refused r → step (s.setCycles n) = .refused r)

/-- O59. For every instruction and every state: exec is refused only for a CSR instruction, and then for an unknown
CSR; it faults only for a load, lr.w or AMO, and then for a byte that holds no value; so every other instruction
answers a next state from every state. R362 (with R23 and R37) also makes a read of a register or CSR that holds no
value a fault; that every register and CSR holds a value from reset, so that no such read faults, is the model's
choice (logs 1, 2). (R362 in 60_exceptions.md, R36 in 10_state.md, R57 in 20_memory.md, R23 in 10_state.md, R37 in
10_state.md) -/
def Obligations.InstructionsNeverStopOtherwise : Prop :=
  ∀ (i : Instr) (s : State),
    (∀ r, exec i s = .refused r → classOf i = .csr ∧ ∃ csr, csr ∉ csrTable.map (·.1) ∧ r = .unknownCsr csr) ∧
    (∀ f, exec i s = .fault f → classOf i ∈ [.load, .loadReserved, .amo] ∧
      ∃ addr n, f = .memoryHoldsNoValue addr n ∧ ∃ k < n, s.mem.read (addr.toNat + k) = none) ∧
    (classOf i ∉ [.load, .loadReserved, .amo, .csr] → ∃ t, exec i s = .next t)

end
end

