-- ==== Sys2Proof/Laws/Encode.lean ====
section
/-! SUPPORT. What a placed field is, seen through a mask and through another field's bits; when a table of rows finds the
row that hits; and what the decoder makes of an encoding's bytes. -/

namespace Sys2Proof

/-! ## A placed field -/

theorem place_bit {n k : Nat} (f : BitVec k) (lo i : Nat) (hi : i < n) :
    (place n f lo).getLsbD i = (decide (lo ≤ i) && f.getLsbD (i - lo)) := by
  rw [place, BitVec.getLsbD_shiftLeft, BitVec.getLsbD_setWidth]
  by_cases h : lo ≤ i
  · simp [h, hi, Nat.not_lt.2 h, show i - lo < n by omega]
  · simp [h, hi, Nat.lt_of_not_le h]

/-- A mask that leaves a field's bits out sees nothing of the field. -/
theorem place_and_eq_zero {n k : Nat} (f : BitVec k) (lo : Nat) (m : BitVec n)
    (h : ∀ j < k, m.getLsbD (lo + j) = false) : place n f lo &&& m = 0 := by
  refine BitVec.eq_of_getLsbD_eq fun i hi => ?_
  rw [BitVec.getLsbD_and, place_bit f lo i hi]
  by_cases hl : lo ≤ i
  · by_cases hk : i - lo < k
    · rw [show m.getLsbD i = false by have := h _ hk; rwa [show lo + (i - lo) = i by omega] at this]; simp
    · simp [BitVec.getLsbD_of_ge f (i - lo) (by omega)]
  · simp [hl]

/-- The bits `hi` to `lo` of a field placed at `lo` are the field, when it has that many. -/
theorem extractLsb_place_same {n k : Nat} (f : BitVec k) (lo hi : Nat) (hk : hi - lo + 1 = k) (hn : hi < n) (hlo : lo ≤ hi) :
    (place n f lo).extractLsb hi lo = f.cast hk.symm := by
  refine BitVec.eq_of_getLsbD_eq fun i hi' => ?_
  rw [BitVec.extractLsb, BitVec.getLsbD_extractLsb', place_bit f lo (lo + i) (by omega), BitVec.getLsbD_cast,
    show lo + i - lo = i by omega]
  simp [hi']

/-- The bits of one field see nothing of a field placed elsewhere. -/
theorem extractLsb_place_disjoint {n k : Nat} (f : BitVec k) (at' hi lo : Nat) (hn : hi < n) (hlo : lo ≤ hi)
    (h : hi < at' ∨ at' + k ≤ lo) : (place n f at').extractLsb hi lo = 0 := by
  refine BitVec.eq_of_getLsbD_eq fun i hi' => ?_
  rw [BitVec.extractLsb, BitVec.getLsbD_extractLsb', place_bit f at' (lo + i) (by omega)]
  by_cases hl : at' ≤ lo + i
  · rw [BitVec.getLsbD_of_ge f _ (by omega)]; simp
  · simp [hl]

/-! ## Register numbers -/

@[simp] theorem regOf_regField (r : Reg) : regOf (regField r) = r := by
  apply Fin.ext
  simp [regOf, regField]

theorem primeOf_primeField {r : Reg} (h : isPrime r = true) : primeOf (primeField r) = r := by
  have h' := of_decide_eq_true h
  apply Fin.ext
  simp only [primeOf, primeField, BitVec.toNat_ofNat]
  omega

theorem isPrime_primeOf (f : BitVec 3) : isPrime (primeOf f) = true := by
  have := f.isLt
  exact decide_eq_true (by simp only [primeOf]; omega)

/-! ## Finding a row -/

/-- Where no two rows hit a word, the row that hits it is the one found. -/
theorem find?_eq_some_of_pairwise {α : Type} {p : α → Bool} {l : List α} {r : α}
    (hd : l.Pairwise fun a b => p a = true → p b = false) (hm : r ∈ l) (hp : p r = true) : l.find? p = some r := by
  induction l with
  | nil => cases hm
  | cons a l ih =>
    obtain ⟨ha, hl⟩ := List.pairwise_cons.1 hd
    rcases List.mem_cons.1 hm with e | hm
    · subst e; rw [List.find?_cons_of_pos hp]
    · have : ¬ p a = true := fun h => by have := ha r hm h; rw [hp] at this; cases this
      rw [List.find?_cons_of_neg this]; exact ih hl hm

/-- Two rows whose patterns differ on a bit both masks test hit no common word. -/
theorem Row32.not_both {r q : Row32} (h : r.pattern &&& q.mask ≠ q.pattern &&& r.mask) (w : Word)
    (hr : r.hits w = true) : q.hits w = false := by
  by_contra hq
  simp only [Row32.hits, beq_iff_eq, Bool.not_eq_false] at hr hq
  apply h
  rw [← hr, ← hq, BitVec.and_assoc, BitVec.and_assoc, BitVec.and_comm q.mask]

/-! ## Bytes (R52) -/

theorem decode_half_bytes {h : Half} (hl : isLong h = false) (rest : List Byte) :
    decode ((Encoded.half h).bytes ++ rest) =
      match decode16 h with
      | some i => .ok (i, rest)
      | none => .error (.illegalParcel h) := by
  have hp : parcelOf (BitVec.ofNat 8 h.toNat) (BitVec.ofNat 8 (h.toNat / 256)) = h := by
    refine BitVec.eq_of_toNat_eq ?_
    have := h.isLt
    simp only [parcelOf, BitVec.toNat_append, BitVec.toNat_ofNat]
    rw [← Nat.shiftLeft_add_eq_or_of_lt (by omega), Nat.shiftLeft_eq]; omega
  simp only [Encoded.bytes, bytesOf, List.cons_append, List.nil_append, decode, hp, hl]
  rfl

theorem decode_word_bytes {w : Word} (hl : isLong (w.extractLsb 15 0) = true) (rest : List Byte) :
    decode ((Encoded.word w).bytes ++ rest) =
      match decode32 w with
      | some i => .ok (i, rest)
      | none => .error (.illegalWord w) := by
  have hlow : parcelOf (BitVec.ofNat 8 w.toNat) (BitVec.ofNat 8 (w.toNat / 256)) = w.extractLsb 15 0 := by
    refine BitVec.eq_of_toNat_eq ?_
    have := w.isLt
    simp only [parcelOf, BitVec.toNat_append, BitVec.toNat_ofNat, BitVec.extractLsb_toNat]
    rw [← Nat.shiftLeft_add_eq_or_of_lt (by omega), Nat.shiftLeft_eq]; simp; omega
  have hword : wordOf (w.extractLsb 15 0) (parcelOf (BitVec.ofNat 8 (w.toNat / 256 / 256))
      (BitVec.ofNat 8 (w.toNat / 256 / 256 / 256))) = w := by
    refine BitVec.eq_of_toNat_eq ?_
    have := w.isLt
    simp only [wordOf, parcelOf, BitVec.toNat_append, BitVec.toNat_ofNat, BitVec.extractLsb_toNat]
    rw [← Nat.shiftLeft_add_eq_or_of_lt (by simp; omega), ← Nat.shiftLeft_add_eq_or_of_lt (by omega), Nat.shiftLeft_eq,
      Nat.shiftLeft_eq]
    simp; omega
  simp only [Encoded.bytes, bytesOf, List.cons_append, List.nil_append, decode, hlow, hl, if_true, hword] <;> rfl

end Sys2Proof
end

