-- ==== Sys2Proof/Laws/State.lean ====
section
/-! SUPPORT. One lemma per field per setter of State: a setter writes its own field and no other. -/

namespace Sys2Proof.Machine.State

open Sys2Proof

variable (s : State)

@[simp] theorem setRegs_regs (v : Vector Word 31) : (s.setRegs v).regs = v := rfl
@[simp] theorem setRegs_pc (v : Vector Word 31) : (s.setRegs v).pc = s.pc := rfl
@[simp] theorem setRegs_mstatus (v : Vector Word 31) : (s.setRegs v).mstatus = s.mstatus := rfl
@[simp] theorem setRegs_mtvec (v : Vector Word 31) : (s.setRegs v).mtvec = s.mtvec := rfl
@[simp] theorem setRegs_mscratch (v : Vector Word 31) : (s.setRegs v).mscratch = s.mscratch := rfl
@[simp] theorem setRegs_mepc (v : Vector Word 31) : (s.setRegs v).mepc = s.mepc := rfl
@[simp] theorem setRegs_mcause (v : Vector Word 31) : (s.setRegs v).mcause = s.mcause := rfl
@[simp] theorem setRegs_mtval (v : Vector Word 31) : (s.setRegs v).mtval = s.mtval := rfl
@[simp] theorem setRegs_lm (v : Vector Word 31) : (s.setRegs v).lm = s.lm := rfl
@[simp] theorem setRegs_mem (v : Vector Word 31) : (s.setRegs v).mem = s.mem := rfl
@[simp] theorem setRegs_storedSinceFenceI (v : Vector Word 31) : (s.setRegs v).storedSinceFenceI = s.storedSinceFenceI := rfl
@[simp] theorem setRegs_cycles (v : Vector Word 31) : (s.setRegs v).cycles = s.cycles := rfl
@[simp] theorem setRegs_memMap (v : Vector Word 31) : (s.setRegs v).memMap = s.memMap := rfl
@[simp] theorem setRegs_monitorReads (v : Vector Word 31) : (s.setRegs v).monitorReads = s.monitorReads := rfl
@[simp] theorem setRegs_monitorWrites (v : Vector Word 31) : (s.setRegs v).monitorWrites = s.monitorWrites := rfl
@[simp] theorem setRegs_draws (v : Vector Word 31) : (s.setRegs v).draws = s.draws := rfl

@[simp] theorem setPc_regs (v : Word) : (s.setPc v).regs = s.regs := rfl
@[simp] theorem setPc_pc (v : Word) : (s.setPc v).pc = v := rfl
@[simp] theorem setPc_mstatus (v : Word) : (s.setPc v).mstatus = s.mstatus := rfl
@[simp] theorem setPc_mtvec (v : Word) : (s.setPc v).mtvec = s.mtvec := rfl
@[simp] theorem setPc_mscratch (v : Word) : (s.setPc v).mscratch = s.mscratch := rfl
@[simp] theorem setPc_mepc (v : Word) : (s.setPc v).mepc = s.mepc := rfl
@[simp] theorem setPc_mcause (v : Word) : (s.setPc v).mcause = s.mcause := rfl
@[simp] theorem setPc_mtval (v : Word) : (s.setPc v).mtval = s.mtval := rfl
@[simp] theorem setPc_lm (v : Word) : (s.setPc v).lm = s.lm := rfl
@[simp] theorem setPc_mem (v : Word) : (s.setPc v).mem = s.mem := rfl
@[simp] theorem setPc_storedSinceFenceI (v : Word) : (s.setPc v).storedSinceFenceI = s.storedSinceFenceI := rfl
@[simp] theorem setPc_cycles (v : Word) : (s.setPc v).cycles = s.cycles := rfl
@[simp] theorem setPc_memMap (v : Word) : (s.setPc v).memMap = s.memMap := rfl
@[simp] theorem setPc_monitorReads (v : Word) : (s.setPc v).monitorReads = s.monitorReads := rfl
@[simp] theorem setPc_monitorWrites (v : Word) : (s.setPc v).monitorWrites = s.monitorWrites := rfl
@[simp] theorem setPc_draws (v : Word) : (s.setPc v).draws = s.draws := rfl

@[simp] theorem setMstatus_regs (v : Mstatus) : (s.setMstatus v).regs = s.regs := rfl
@[simp] theorem setMstatus_pc (v : Mstatus) : (s.setMstatus v).pc = s.pc := rfl
@[simp] theorem setMstatus_mstatus (v : Mstatus) : (s.setMstatus v).mstatus = v := rfl
@[simp] theorem setMstatus_mtvec (v : Mstatus) : (s.setMstatus v).mtvec = s.mtvec := rfl
@[simp] theorem setMstatus_mscratch (v : Mstatus) : (s.setMstatus v).mscratch = s.mscratch := rfl
@[simp] theorem setMstatus_mepc (v : Mstatus) : (s.setMstatus v).mepc = s.mepc := rfl
@[simp] theorem setMstatus_mcause (v : Mstatus) : (s.setMstatus v).mcause = s.mcause := rfl
@[simp] theorem setMstatus_mtval (v : Mstatus) : (s.setMstatus v).mtval = s.mtval := rfl
@[simp] theorem setMstatus_lm (v : Mstatus) : (s.setMstatus v).lm = s.lm := rfl
@[simp] theorem setMstatus_mem (v : Mstatus) : (s.setMstatus v).mem = s.mem := rfl
@[simp] theorem setMstatus_storedSinceFenceI (v : Mstatus) : (s.setMstatus v).storedSinceFenceI = s.storedSinceFenceI := rfl
@[simp] theorem setMstatus_cycles (v : Mstatus) : (s.setMstatus v).cycles = s.cycles := rfl
@[simp] theorem setMstatus_memMap (v : Mstatus) : (s.setMstatus v).memMap = s.memMap := rfl
@[simp] theorem setMstatus_monitorReads (v : Mstatus) : (s.setMstatus v).monitorReads = s.monitorReads := rfl
@[simp] theorem setMstatus_monitorWrites (v : Mstatus) : (s.setMstatus v).monitorWrites = s.monitorWrites := rfl
@[simp] theorem setMstatus_draws (v : Mstatus) : (s.setMstatus v).draws = s.draws := rfl

@[simp] theorem setMtvec_regs (v : Mtvec) : (s.setMtvec v).regs = s.regs := rfl
@[simp] theorem setMtvec_pc (v : Mtvec) : (s.setMtvec v).pc = s.pc := rfl
@[simp] theorem setMtvec_mstatus (v : Mtvec) : (s.setMtvec v).mstatus = s.mstatus := rfl
@[simp] theorem setMtvec_mtvec (v : Mtvec) : (s.setMtvec v).mtvec = v := rfl
@[simp] theorem setMtvec_mscratch (v : Mtvec) : (s.setMtvec v).mscratch = s.mscratch := rfl
@[simp] theorem setMtvec_mepc (v : Mtvec) : (s.setMtvec v).mepc = s.mepc := rfl
@[simp] theorem setMtvec_mcause (v : Mtvec) : (s.setMtvec v).mcause = s.mcause := rfl
@[simp] theorem setMtvec_mtval (v : Mtvec) : (s.setMtvec v).mtval = s.mtval := rfl
@[simp] theorem setMtvec_lm (v : Mtvec) : (s.setMtvec v).lm = s.lm := rfl
@[simp] theorem setMtvec_mem (v : Mtvec) : (s.setMtvec v).mem = s.mem := rfl
@[simp] theorem setMtvec_storedSinceFenceI (v : Mtvec) : (s.setMtvec v).storedSinceFenceI = s.storedSinceFenceI := rfl
@[simp] theorem setMtvec_cycles (v : Mtvec) : (s.setMtvec v).cycles = s.cycles := rfl
@[simp] theorem setMtvec_memMap (v : Mtvec) : (s.setMtvec v).memMap = s.memMap := rfl
@[simp] theorem setMtvec_monitorReads (v : Mtvec) : (s.setMtvec v).monitorReads = s.monitorReads := rfl
@[simp] theorem setMtvec_monitorWrites (v : Mtvec) : (s.setMtvec v).monitorWrites = s.monitorWrites := rfl
@[simp] theorem setMtvec_draws (v : Mtvec) : (s.setMtvec v).draws = s.draws := rfl

@[simp] theorem setMscratch_regs (v : Word) : (s.setMscratch v).regs = s.regs := rfl
@[simp] theorem setMscratch_pc (v : Word) : (s.setMscratch v).pc = s.pc := rfl
@[simp] theorem setMscratch_mstatus (v : Word) : (s.setMscratch v).mstatus = s.mstatus := rfl
@[simp] theorem setMscratch_mtvec (v : Word) : (s.setMscratch v).mtvec = s.mtvec := rfl
@[simp] theorem setMscratch_mscratch (v : Word) : (s.setMscratch v).mscratch = v := rfl
@[simp] theorem setMscratch_mepc (v : Word) : (s.setMscratch v).mepc = s.mepc := rfl
@[simp] theorem setMscratch_mcause (v : Word) : (s.setMscratch v).mcause = s.mcause := rfl
@[simp] theorem setMscratch_mtval (v : Word) : (s.setMscratch v).mtval = s.mtval := rfl
@[simp] theorem setMscratch_lm (v : Word) : (s.setMscratch v).lm = s.lm := rfl
@[simp] theorem setMscratch_mem (v : Word) : (s.setMscratch v).mem = s.mem := rfl
@[simp] theorem setMscratch_storedSinceFenceI (v : Word) : (s.setMscratch v).storedSinceFenceI = s.storedSinceFenceI := rfl
@[simp] theorem setMscratch_cycles (v : Word) : (s.setMscratch v).cycles = s.cycles := rfl
@[simp] theorem setMscratch_memMap (v : Word) : (s.setMscratch v).memMap = s.memMap := rfl
@[simp] theorem setMscratch_monitorReads (v : Word) : (s.setMscratch v).monitorReads = s.monitorReads := rfl
@[simp] theorem setMscratch_monitorWrites (v : Word) : (s.setMscratch v).monitorWrites = s.monitorWrites := rfl
@[simp] theorem setMscratch_draws (v : Word) : (s.setMscratch v).draws = s.draws := rfl

@[simp] theorem setMepc_regs (v : Word) : (s.setMepc v).regs = s.regs := rfl
@[simp] theorem setMepc_pc (v : Word) : (s.setMepc v).pc = s.pc := rfl
@[simp] theorem setMepc_mstatus (v : Word) : (s.setMepc v).mstatus = s.mstatus := rfl
@[simp] theorem setMepc_mtvec (v : Word) : (s.setMepc v).mtvec = s.mtvec := rfl
@[simp] theorem setMepc_mscratch (v : Word) : (s.setMepc v).mscratch = s.mscratch := rfl
@[simp] theorem setMepc_mepc (v : Word) : (s.setMepc v).mepc = v := rfl
@[simp] theorem setMepc_mcause (v : Word) : (s.setMepc v).mcause = s.mcause := rfl
@[simp] theorem setMepc_mtval (v : Word) : (s.setMepc v).mtval = s.mtval := rfl
@[simp] theorem setMepc_lm (v : Word) : (s.setMepc v).lm = s.lm := rfl
@[simp] theorem setMepc_mem (v : Word) : (s.setMepc v).mem = s.mem := rfl
@[simp] theorem setMepc_storedSinceFenceI (v : Word) : (s.setMepc v).storedSinceFenceI = s.storedSinceFenceI := rfl
@[simp] theorem setMepc_cycles (v : Word) : (s.setMepc v).cycles = s.cycles := rfl
@[simp] theorem setMepc_memMap (v : Word) : (s.setMepc v).memMap = s.memMap := rfl
@[simp] theorem setMepc_monitorReads (v : Word) : (s.setMepc v).monitorReads = s.monitorReads := rfl
@[simp] theorem setMepc_monitorWrites (v : Word) : (s.setMepc v).monitorWrites = s.monitorWrites := rfl
@[simp] theorem setMepc_draws (v : Word) : (s.setMepc v).draws = s.draws := rfl

@[simp] theorem setMcause_regs (v : Word) : (s.setMcause v).regs = s.regs := rfl
@[simp] theorem setMcause_pc (v : Word) : (s.setMcause v).pc = s.pc := rfl
@[simp] theorem setMcause_mstatus (v : Word) : (s.setMcause v).mstatus = s.mstatus := rfl
@[simp] theorem setMcause_mtvec (v : Word) : (s.setMcause v).mtvec = s.mtvec := rfl
@[simp] theorem setMcause_mscratch (v : Word) : (s.setMcause v).mscratch = s.mscratch := rfl
@[simp] theorem setMcause_mepc (v : Word) : (s.setMcause v).mepc = s.mepc := rfl
@[simp] theorem setMcause_mcause (v : Word) : (s.setMcause v).mcause = v := rfl
@[simp] theorem setMcause_mtval (v : Word) : (s.setMcause v).mtval = s.mtval := rfl
@[simp] theorem setMcause_lm (v : Word) : (s.setMcause v).lm = s.lm := rfl
@[simp] theorem setMcause_mem (v : Word) : (s.setMcause v).mem = s.mem := rfl
@[simp] theorem setMcause_storedSinceFenceI (v : Word) : (s.setMcause v).storedSinceFenceI = s.storedSinceFenceI := rfl
@[simp] theorem setMcause_cycles (v : Word) : (s.setMcause v).cycles = s.cycles := rfl
@[simp] theorem setMcause_memMap (v : Word) : (s.setMcause v).memMap = s.memMap := rfl
@[simp] theorem setMcause_monitorReads (v : Word) : (s.setMcause v).monitorReads = s.monitorReads := rfl
@[simp] theorem setMcause_monitorWrites (v : Word) : (s.setMcause v).monitorWrites = s.monitorWrites := rfl
@[simp] theorem setMcause_draws (v : Word) : (s.setMcause v).draws = s.draws := rfl

@[simp] theorem setMtval_regs (v : Word) : (s.setMtval v).regs = s.regs := rfl
@[simp] theorem setMtval_pc (v : Word) : (s.setMtval v).pc = s.pc := rfl
@[simp] theorem setMtval_mstatus (v : Word) : (s.setMtval v).mstatus = s.mstatus := rfl
@[simp] theorem setMtval_mtvec (v : Word) : (s.setMtval v).mtvec = s.mtvec := rfl
@[simp] theorem setMtval_mscratch (v : Word) : (s.setMtval v).mscratch = s.mscratch := rfl
@[simp] theorem setMtval_mepc (v : Word) : (s.setMtval v).mepc = s.mepc := rfl
@[simp] theorem setMtval_mcause (v : Word) : (s.setMtval v).mcause = s.mcause := rfl
@[simp] theorem setMtval_mtval (v : Word) : (s.setMtval v).mtval = v := rfl
@[simp] theorem setMtval_lm (v : Word) : (s.setMtval v).lm = s.lm := rfl
@[simp] theorem setMtval_mem (v : Word) : (s.setMtval v).mem = s.mem := rfl
@[simp] theorem setMtval_storedSinceFenceI (v : Word) : (s.setMtval v).storedSinceFenceI = s.storedSinceFenceI := rfl
@[simp] theorem setMtval_cycles (v : Word) : (s.setMtval v).cycles = s.cycles := rfl
@[simp] theorem setMtval_memMap (v : Word) : (s.setMtval v).memMap = s.memMap := rfl
@[simp] theorem setMtval_monitorReads (v : Word) : (s.setMtval v).monitorReads = s.monitorReads := rfl
@[simp] theorem setMtval_monitorWrites (v : Word) : (s.setMtval v).monitorWrites = s.monitorWrites := rfl
@[simp] theorem setMtval_draws (v : Word) : (s.setMtval v).draws = s.draws := rfl

@[simp] theorem setLm_regs (v : Bool) : (s.setLm v).regs = s.regs := rfl
@[simp] theorem setLm_pc (v : Bool) : (s.setLm v).pc = s.pc := rfl
@[simp] theorem setLm_mstatus (v : Bool) : (s.setLm v).mstatus = s.mstatus := rfl
@[simp] theorem setLm_mtvec (v : Bool) : (s.setLm v).mtvec = s.mtvec := rfl
@[simp] theorem setLm_mscratch (v : Bool) : (s.setLm v).mscratch = s.mscratch := rfl
@[simp] theorem setLm_mepc (v : Bool) : (s.setLm v).mepc = s.mepc := rfl
@[simp] theorem setLm_mcause (v : Bool) : (s.setLm v).mcause = s.mcause := rfl
@[simp] theorem setLm_mtval (v : Bool) : (s.setLm v).mtval = s.mtval := rfl
@[simp] theorem setLm_lm (v : Bool) : (s.setLm v).lm = v := rfl
@[simp] theorem setLm_mem (v : Bool) : (s.setLm v).mem = s.mem := rfl
@[simp] theorem setLm_storedSinceFenceI (v : Bool) : (s.setLm v).storedSinceFenceI = s.storedSinceFenceI := rfl
@[simp] theorem setLm_cycles (v : Bool) : (s.setLm v).cycles = s.cycles := rfl
@[simp] theorem setLm_memMap (v : Bool) : (s.setLm v).memMap = s.memMap := rfl
@[simp] theorem setLm_monitorReads (v : Bool) : (s.setLm v).monitorReads = s.monitorReads := rfl
@[simp] theorem setLm_monitorWrites (v : Bool) : (s.setLm v).monitorWrites = s.monitorWrites := rfl
@[simp] theorem setLm_draws (v : Bool) : (s.setLm v).draws = s.draws := rfl

@[simp] theorem setMem_regs (v : Memory) : (s.setMem v).regs = s.regs := rfl
@[simp] theorem setMem_pc (v : Memory) : (s.setMem v).pc = s.pc := rfl
@[simp] theorem setMem_mstatus (v : Memory) : (s.setMem v).mstatus = s.mstatus := rfl
@[simp] theorem setMem_mtvec (v : Memory) : (s.setMem v).mtvec = s.mtvec := rfl
@[simp] theorem setMem_mscratch (v : Memory) : (s.setMem v).mscratch = s.mscratch := rfl
@[simp] theorem setMem_mepc (v : Memory) : (s.setMem v).mepc = s.mepc := rfl
@[simp] theorem setMem_mcause (v : Memory) : (s.setMem v).mcause = s.mcause := rfl
@[simp] theorem setMem_mtval (v : Memory) : (s.setMem v).mtval = s.mtval := rfl
@[simp] theorem setMem_lm (v : Memory) : (s.setMem v).lm = s.lm := rfl
@[simp] theorem setMem_mem (v : Memory) : (s.setMem v).mem = v := rfl
@[simp] theorem setMem_storedSinceFenceI (v : Memory) : (s.setMem v).storedSinceFenceI = s.storedSinceFenceI := rfl
@[simp] theorem setMem_cycles (v : Memory) : (s.setMem v).cycles = s.cycles := rfl
@[simp] theorem setMem_memMap (v : Memory) : (s.setMem v).memMap = s.memMap := rfl
@[simp] theorem setMem_monitorReads (v : Memory) : (s.setMem v).monitorReads = s.monitorReads := rfl
@[simp] theorem setMem_monitorWrites (v : Memory) : (s.setMem v).monitorWrites = s.monitorWrites := rfl
@[simp] theorem setMem_draws (v : Memory) : (s.setMem v).draws = s.draws := rfl

@[simp] theorem setStoredSinceFenceI_regs (v : AddrSet) : (s.setStoredSinceFenceI v).regs = s.regs := rfl
@[simp] theorem setStoredSinceFenceI_pc (v : AddrSet) : (s.setStoredSinceFenceI v).pc = s.pc := rfl
@[simp] theorem setStoredSinceFenceI_mstatus (v : AddrSet) : (s.setStoredSinceFenceI v).mstatus = s.mstatus := rfl
@[simp] theorem setStoredSinceFenceI_mtvec (v : AddrSet) : (s.setStoredSinceFenceI v).mtvec = s.mtvec := rfl
@[simp] theorem setStoredSinceFenceI_mscratch (v : AddrSet) : (s.setStoredSinceFenceI v).mscratch = s.mscratch := rfl
@[simp] theorem setStoredSinceFenceI_mepc (v : AddrSet) : (s.setStoredSinceFenceI v).mepc = s.mepc := rfl
@[simp] theorem setStoredSinceFenceI_mcause (v : AddrSet) : (s.setStoredSinceFenceI v).mcause = s.mcause := rfl
@[simp] theorem setStoredSinceFenceI_mtval (v : AddrSet) : (s.setStoredSinceFenceI v).mtval = s.mtval := rfl
@[simp] theorem setStoredSinceFenceI_lm (v : AddrSet) : (s.setStoredSinceFenceI v).lm = s.lm := rfl
@[simp] theorem setStoredSinceFenceI_mem (v : AddrSet) : (s.setStoredSinceFenceI v).mem = s.mem := rfl
@[simp] theorem setStoredSinceFenceI_storedSinceFenceI (v : AddrSet) : (s.setStoredSinceFenceI v).storedSinceFenceI = v := rfl
@[simp] theorem setStoredSinceFenceI_cycles (v : AddrSet) : (s.setStoredSinceFenceI v).cycles = s.cycles := rfl
@[simp] theorem setStoredSinceFenceI_memMap (v : AddrSet) : (s.setStoredSinceFenceI v).memMap = s.memMap := rfl
@[simp] theorem setStoredSinceFenceI_monitorReads (v : AddrSet) : (s.setStoredSinceFenceI v).monitorReads = s.monitorReads := rfl
@[simp] theorem setStoredSinceFenceI_monitorWrites (v : AddrSet) : (s.setStoredSinceFenceI v).monitorWrites = s.monitorWrites := rfl
@[simp] theorem setStoredSinceFenceI_draws (v : AddrSet) : (s.setStoredSinceFenceI v).draws = s.draws := rfl

@[simp] theorem setCycles_regs (v : Nat) : (s.setCycles v).regs = s.regs := rfl
@[simp] theorem setCycles_pc (v : Nat) : (s.setCycles v).pc = s.pc := rfl
@[simp] theorem setCycles_mstatus (v : Nat) : (s.setCycles v).mstatus = s.mstatus := rfl
@[simp] theorem setCycles_mtvec (v : Nat) : (s.setCycles v).mtvec = s.mtvec := rfl
@[simp] theorem setCycles_mscratch (v : Nat) : (s.setCycles v).mscratch = s.mscratch := rfl
@[simp] theorem setCycles_mepc (v : Nat) : (s.setCycles v).mepc = s.mepc := rfl
@[simp] theorem setCycles_mcause (v : Nat) : (s.setCycles v).mcause = s.mcause := rfl
@[simp] theorem setCycles_mtval (v : Nat) : (s.setCycles v).mtval = s.mtval := rfl
@[simp] theorem setCycles_lm (v : Nat) : (s.setCycles v).lm = s.lm := rfl
@[simp] theorem setCycles_mem (v : Nat) : (s.setCycles v).mem = s.mem := rfl
@[simp] theorem setCycles_storedSinceFenceI (v : Nat) : (s.setCycles v).storedSinceFenceI = s.storedSinceFenceI := rfl
@[simp] theorem setCycles_cycles (v : Nat) : (s.setCycles v).cycles = v := rfl
@[simp] theorem setCycles_memMap (v : Nat) : (s.setCycles v).memMap = s.memMap := rfl
@[simp] theorem setCycles_monitorReads (v : Nat) : (s.setCycles v).monitorReads = s.monitorReads := rfl
@[simp] theorem setCycles_monitorWrites (v : Nat) : (s.setCycles v).monitorWrites = s.monitorWrites := rfl
@[simp] theorem setCycles_draws (v : Nat) : (s.setCycles v).draws = s.draws := rfl

@[simp] theorem setMemMap_regs (v : List Region) : (s.setMemMap v).regs = s.regs := rfl
@[simp] theorem setMemMap_pc (v : List Region) : (s.setMemMap v).pc = s.pc := rfl
@[simp] theorem setMemMap_mstatus (v : List Region) : (s.setMemMap v).mstatus = s.mstatus := rfl
@[simp] theorem setMemMap_mtvec (v : List Region) : (s.setMemMap v).mtvec = s.mtvec := rfl
@[simp] theorem setMemMap_mscratch (v : List Region) : (s.setMemMap v).mscratch = s.mscratch := rfl
@[simp] theorem setMemMap_mepc (v : List Region) : (s.setMemMap v).mepc = s.mepc := rfl
@[simp] theorem setMemMap_mcause (v : List Region) : (s.setMemMap v).mcause = s.mcause := rfl
@[simp] theorem setMemMap_mtval (v : List Region) : (s.setMemMap v).mtval = s.mtval := rfl
@[simp] theorem setMemMap_lm (v : List Region) : (s.setMemMap v).lm = s.lm := rfl
@[simp] theorem setMemMap_mem (v : List Region) : (s.setMemMap v).mem = s.mem := rfl
@[simp] theorem setMemMap_storedSinceFenceI (v : List Region) : (s.setMemMap v).storedSinceFenceI = s.storedSinceFenceI := rfl
@[simp] theorem setMemMap_cycles (v : List Region) : (s.setMemMap v).cycles = s.cycles := rfl
@[simp] theorem setMemMap_memMap (v : List Region) : (s.setMemMap v).memMap = v := rfl
@[simp] theorem setMemMap_monitorReads (v : List Region) : (s.setMemMap v).monitorReads = s.monitorReads := rfl
@[simp] theorem setMemMap_monitorWrites (v : List Region) : (s.setMemMap v).monitorWrites = s.monitorWrites := rfl
@[simp] theorem setMemMap_draws (v : List Region) : (s.setMemMap v).draws = s.draws := rfl

@[simp] theorem setMonitorReads_regs (v : List ReadAnswer) : (s.setMonitorReads v).regs = s.regs := rfl
@[simp] theorem setMonitorReads_pc (v : List ReadAnswer) : (s.setMonitorReads v).pc = s.pc := rfl
@[simp] theorem setMonitorReads_mstatus (v : List ReadAnswer) : (s.setMonitorReads v).mstatus = s.mstatus := rfl
@[simp] theorem setMonitorReads_mtvec (v : List ReadAnswer) : (s.setMonitorReads v).mtvec = s.mtvec := rfl
@[simp] theorem setMonitorReads_mscratch (v : List ReadAnswer) : (s.setMonitorReads v).mscratch = s.mscratch := rfl
@[simp] theorem setMonitorReads_mepc (v : List ReadAnswer) : (s.setMonitorReads v).mepc = s.mepc := rfl
@[simp] theorem setMonitorReads_mcause (v : List ReadAnswer) : (s.setMonitorReads v).mcause = s.mcause := rfl
@[simp] theorem setMonitorReads_mtval (v : List ReadAnswer) : (s.setMonitorReads v).mtval = s.mtval := rfl
@[simp] theorem setMonitorReads_lm (v : List ReadAnswer) : (s.setMonitorReads v).lm = s.lm := rfl
@[simp] theorem setMonitorReads_mem (v : List ReadAnswer) : (s.setMonitorReads v).mem = s.mem := rfl
@[simp] theorem setMonitorReads_storedSinceFenceI (v : List ReadAnswer) : (s.setMonitorReads v).storedSinceFenceI = s.storedSinceFenceI := rfl
@[simp] theorem setMonitorReads_cycles (v : List ReadAnswer) : (s.setMonitorReads v).cycles = s.cycles := rfl
@[simp] theorem setMonitorReads_memMap (v : List ReadAnswer) : (s.setMonitorReads v).memMap = s.memMap := rfl
@[simp] theorem setMonitorReads_monitorReads (v : List ReadAnswer) : (s.setMonitorReads v).monitorReads = v := rfl
@[simp] theorem setMonitorReads_monitorWrites (v : List ReadAnswer) : (s.setMonitorReads v).monitorWrites = s.monitorWrites := rfl
@[simp] theorem setMonitorReads_draws (v : List ReadAnswer) : (s.setMonitorReads v).draws = s.draws := rfl

@[simp] theorem setMonitorWrites_regs (v : List WriteAnswer) : (s.setMonitorWrites v).regs = s.regs := rfl
@[simp] theorem setMonitorWrites_pc (v : List WriteAnswer) : (s.setMonitorWrites v).pc = s.pc := rfl
@[simp] theorem setMonitorWrites_mstatus (v : List WriteAnswer) : (s.setMonitorWrites v).mstatus = s.mstatus := rfl
@[simp] theorem setMonitorWrites_mtvec (v : List WriteAnswer) : (s.setMonitorWrites v).mtvec = s.mtvec := rfl
@[simp] theorem setMonitorWrites_mscratch (v : List WriteAnswer) : (s.setMonitorWrites v).mscratch = s.mscratch := rfl
@[simp] theorem setMonitorWrites_mepc (v : List WriteAnswer) : (s.setMonitorWrites v).mepc = s.mepc := rfl
@[simp] theorem setMonitorWrites_mcause (v : List WriteAnswer) : (s.setMonitorWrites v).mcause = s.mcause := rfl
@[simp] theorem setMonitorWrites_mtval (v : List WriteAnswer) : (s.setMonitorWrites v).mtval = s.mtval := rfl
@[simp] theorem setMonitorWrites_lm (v : List WriteAnswer) : (s.setMonitorWrites v).lm = s.lm := rfl
@[simp] theorem setMonitorWrites_mem (v : List WriteAnswer) : (s.setMonitorWrites v).mem = s.mem := rfl
@[simp] theorem setMonitorWrites_storedSinceFenceI (v : List WriteAnswer) : (s.setMonitorWrites v).storedSinceFenceI = s.storedSinceFenceI := rfl
@[simp] theorem setMonitorWrites_cycles (v : List WriteAnswer) : (s.setMonitorWrites v).cycles = s.cycles := rfl
@[simp] theorem setMonitorWrites_memMap (v : List WriteAnswer) : (s.setMonitorWrites v).memMap = s.memMap := rfl
@[simp] theorem setMonitorWrites_monitorReads (v : List WriteAnswer) : (s.setMonitorWrites v).monitorReads = s.monitorReads := rfl
@[simp] theorem setMonitorWrites_monitorWrites (v : List WriteAnswer) : (s.setMonitorWrites v).monitorWrites = v := rfl
@[simp] theorem setMonitorWrites_draws (v : List WriteAnswer) : (s.setMonitorWrites v).draws = s.draws := rfl

@[simp] theorem setDraws_regs (v : Nat) : (s.setDraws v).regs = s.regs := rfl
@[simp] theorem setDraws_pc (v : Nat) : (s.setDraws v).pc = s.pc := rfl
@[simp] theorem setDraws_mstatus (v : Nat) : (s.setDraws v).mstatus = s.mstatus := rfl
@[simp] theorem setDraws_mtvec (v : Nat) : (s.setDraws v).mtvec = s.mtvec := rfl
@[simp] theorem setDraws_mscratch (v : Nat) : (s.setDraws v).mscratch = s.mscratch := rfl
@[simp] theorem setDraws_mepc (v : Nat) : (s.setDraws v).mepc = s.mepc := rfl
@[simp] theorem setDraws_mcause (v : Nat) : (s.setDraws v).mcause = s.mcause := rfl
@[simp] theorem setDraws_mtval (v : Nat) : (s.setDraws v).mtval = s.mtval := rfl
@[simp] theorem setDraws_lm (v : Nat) : (s.setDraws v).lm = s.lm := rfl
@[simp] theorem setDraws_mem (v : Nat) : (s.setDraws v).mem = s.mem := rfl
@[simp] theorem setDraws_storedSinceFenceI (v : Nat) : (s.setDraws v).storedSinceFenceI = s.storedSinceFenceI := rfl
@[simp] theorem setDraws_cycles (v : Nat) : (s.setDraws v).cycles = s.cycles := rfl
@[simp] theorem setDraws_memMap (v : Nat) : (s.setDraws v).memMap = s.memMap := rfl
@[simp] theorem setDraws_monitorReads (v : Nat) : (s.setDraws v).monitorReads = s.monitorReads := rfl
@[simp] theorem setDraws_monitorWrites (v : Nat) : (s.setDraws v).monitorWrites = s.monitorWrites := rfl
@[simp] theorem setDraws_draws (v : Nat) : (s.setDraws v).draws = v := rfl

/-- Two states are equal when their fields are. -/
theorem ext_fields {s t : State} (h1 : s.regs = t.regs) (h2 : s.pc = t.pc) (h3 : s.mstatus = t.mstatus)
    (h4 : s.mtvec = t.mtvec) (h5 : s.mscratch = t.mscratch) (h6 : s.mepc = t.mepc) (h7 : s.mcause = t.mcause)
    (h8 : s.mtval = t.mtval) (h9 : s.lm = t.lm) (h10 : s.mem = t.mem)
    (h11 : s.storedSinceFenceI = t.storedSinceFenceI) (h12 : s.cycles = t.cycles) (h13 : s.memMap = t.memMap)
    (h14 : s.monitorReads = t.monitorReads) (h15 : s.monitorWrites = t.monitorWrites) (h16 : s.draws = t.draws) :
    s = t := by
  cases s; cases t; simp_all

end Sys2Proof.Machine.State
end

