-- ==== Sys2Proof/Laws/Memory.lean ====
section
/-! SUPPORT. What the memory operations do: reads after writes, the canonical forms, and a pattern from its bytes. -/

namespace Sys2Proof.Machine

open Sys2Proof

/-! ## One byte -/

@[simp] theorem Memory.read_nil (a : Nat) : Memory.read [] a = none := rfl

theorem Memory.read_write_same (m : Memory) (a : Nat) (b : Byte) : (m.write a b).read a = some b := by
  induction m with
  | nil => simp [Memory.write, Memory.read]
  | cons c m ih =>
    unfold Memory.write
    split
    · simp [Memory.read]
    · split
      · simp [Memory.read]
      · next h => rw [Memory.read, if_neg (fun e => h e.symm)]; exact ih

theorem Memory.read_write_other (m : Memory) {a a' : Nat} (b : Byte) (h : a' ≠ a) :
    (m.write a b).read a' = m.read a' := by
  induction m with
  | nil => simp [Memory.write, Memory.read, h.symm]
  | cons c m ih =>
    unfold Memory.write
    split
    · rw [Memory.read, if_neg (fun e => h e.symm)]
    · split
      · next e => rw [Memory.read, Memory.read, if_neg (fun e => h e.symm), if_neg (fun x => h (x.symm.trans e.symm))]
      · rw [Memory.read, Memory.read, ih]

theorem Memory.read_write (m : Memory) (a a' : Nat) (b : Byte) :
    (m.write a b).read a' = if a' = a then some b else m.read a' := by
  split
  · next h => rw [h]; exact m.read_write_same a b
  · next h => exact m.read_write_other b h

theorem Memory.mem_write {m : Memory} {a : Nat} {b : Byte} {c : Host.Cell} (h : c ∈ m.write a b) :
    c = (a, b) ∨ c ∈ m := by
  induction m with
  | nil => simpa [Memory.write] using h
  | cons d m ih =>
    unfold Memory.write at h
    split at h
    · simpa using h
    · split at h
      · rcases List.mem_cons.1 h with h | h
        · exact .inl h
        · exact .inr (List.mem_cons_of_mem _ h)
      · rcases List.mem_cons.1 h with h | h
        · exact .inr (h ▸ List.mem_cons_self)
        · exact (ih h).imp id (List.mem_cons_of_mem _)

/-- A write inside the address space keeps the canonical form. -/
theorem Memory.write_wf {m : Memory} {a : Nat} (b : Byte) (h : m.wf) (ha : a < 2 ^ 32) : (m.write a b).wf := by
  refine ⟨?_, fun c hc => (Memory.mem_write hc).elim (fun e => e ▸ ha) (h.2 c)⟩
  obtain ⟨h, -⟩ := h
  induction m with
  | nil => simp [Memory.write]
  | cons d m ih =>
    obtain ⟨hd, hm⟩ := List.pairwise_cons.1 h
    unfold Memory.write
    split
    · next lt =>
      exact List.pairwise_cons.2 ⟨fun c hc => (List.mem_cons.1 hc).elim (fun e => e ▸ lt) (fun hc => lt.trans (hd c hc)), h⟩
    · split
      · next e => exact List.pairwise_cons.2 ⟨fun c hc => e ▸ hd c hc, hm⟩
      · next nlt ne =>
        refine List.pairwise_cons.2 ⟨fun c hc => ?_, ih hm⟩
        rcases Memory.mem_write hc with e | hc
        · rw [e]; exact Nat.lt_of_le_of_ne (Nat.le_of_not_lt nlt) (fun x => ne x.symm)
        · exact hd c hc

/-! ## Several bytes -/

/-- Every byte after a run of bytes is written: inside the run the written byte, outside it the old one. -/
theorem Memory.read_writeBytes (m : Memory) (a : Nat) (bs : List Byte) (a' : Nat) :
    (m.writeBytes a bs).read a' =
      if a ≤ a' ∧ a' < a + bs.length then bs[a' - a]? else m.read a' := by
  induction bs generalizing m a with
  | nil => rw [if_neg (by simp)]; rfl
  | cons b bs ih =>
    rw [Memory.writeBytes, ih, List.length_cons]
    by_cases h : a' = a
    · subst h
      rw [if_neg (by omega), if_pos (by omega), Memory.read_write_same]; simp
    · rw [Memory.read_write_other _ _ h]
      by_cases h1 : a + 1 ≤ a' ∧ a' < a + 1 + bs.length
      · rw [if_pos h1, if_pos (by omega), show a' - a = (a' - (a + 1)) + 1 by omega, List.getElem?_cons_succ]
      · rw [if_neg h1, if_neg (by omega)]

theorem Memory.read_writeBytes_outside (m : Memory) {a a' : Nat} {bs : List Byte} (h : a' < a ∨ a + bs.length ≤ a') :
    (m.writeBytes a bs).read a' = m.read a' := by
  rw [Memory.read_writeBytes, if_neg (by omega)]

theorem Memory.writeBytes_wf {m : Memory} {a : Nat} {bs : List Byte} (h : m.wf) (ha : a + bs.length ≤ 2 ^ 32) :
    (m.writeBytes a bs).wf := by
  induction bs generalizing m a with
  | nil => exact h
  | cons b bs ih =>
    rw [List.length_cons] at ha
    exact ih (Memory.write_wf b h (by omega)) (by omega)

/-- A read of bytes looks at those bytes only. -/
theorem Memory.readBytes_congr {m m' : Memory} {n a : Nat} (h : ∀ i < n, m.read (a + i) = m'.read (a + i)) :
    m.readBytes n a = m'.readBytes n a := by
  induction n generalizing a with
  | zero => rfl
  | succ n ih =>
    rw [Memory.readBytes, Memory.readBytes, show m.read a = m'.read a from h 0 (by omega),
      ih (a := a + 1) fun i hi => by rw [show a + 1 + i = a + (i + 1) by omega]; exact h _ (by omega)]

/-- The bytes a read gives are the bytes there. -/
theorem Memory.readBytes_eq_some {m : Memory} {n a : Nat} {bs : List Byte} :
    m.readBytes n a = some bs ↔ bs.length = n ∧ ∀ i < n, m.read (a + i) = bs[i]? := by
  induction n generalizing a bs with
  | zero => cases bs <;> simp [Memory.readBytes]
  | succ n ih =>
    rw [Memory.readBytes]
    constructor
    · intro h
      split at h
      · next b bs' hb hbs =>
        cases h
        obtain ⟨hl, hr⟩ := ih.1 hbs
        refine ⟨by simp [hl], fun i hi => ?_⟩
        cases i with
        | zero => simpa using hb
        | succ i => rw [show a + (i + 1) = a + 1 + i by omega, hr i (by omega)]; simp
      · cases h
    · rintro ⟨hl, hr⟩
      cases bs with
      | nil => simp at hl
      | cons b bs =>
        have h0 : m.read a = some b := by simpa using hr 0 (by omega)
        have h1 : m.readBytes n (a + 1) = some bs := ih.2 ⟨by simpa using hl, fun i hi => by
          rw [show a + 1 + i = a + (i + 1) by omega, hr (i + 1) (by omega)]; simp⟩
        rw [h0, h1]

/-- A read of the bytes just written gives them. -/
theorem Memory.readBytes_writeBytes_same (m : Memory) (a : Nat) (bs : List Byte) :
    (m.writeBytes a bs).readBytes bs.length a = some bs :=
  Memory.readBytes_eq_some.2 ⟨rfl, fun i hi => by
    rw [Memory.read_writeBytes, if_pos (by omega), show a + i - a = i by omega]⟩

/-! ## Sets of addresses -/

theorem AddrSet.mem_insert {t : AddrSet} {a b : Nat} : b ∈ t.insert a ↔ b = a ∨ b ∈ t := by
  induction t with
  | nil => simp [AddrSet.insert]
  | cons c t ih =>
    unfold AddrSet.insert
    split
    · simp
    · split
      · next e => subst e; simp
      · rw [List.mem_cons, ih, List.mem_cons]; tauto

theorem AddrSet.insert_wf {t : AddrSet} (a : Nat) (h : t.wf) : (t.insert a).wf := by
  induction t with
  | nil => simp [AddrSet.insert]
  | cons c t ih =>
    obtain ⟨hc, ht⟩ := List.pairwise_cons.1 h
    unfold AddrSet.insert
    split
    · next lt => exact List.pairwise_cons.2 ⟨fun b hb => (List.mem_cons.1 hb).elim (fun e => e ▸ lt) (fun hb => lt.trans (hc b hb)), h⟩
    · split
      · exact h
      · next nlt ne =>
        refine List.pairwise_cons.2 ⟨fun b hb => ?_, ih ht⟩
        rcases AddrSet.mem_insert.1 hb with e | hb
        · rw [e]; exact Nat.lt_of_le_of_ne (Nat.le_of_not_lt nlt) (fun x => ne x.symm)
        · exact hc b hb

theorem AddrSet.mem_insertRange {t : AddrSet} {a n b : Nat} :
    b ∈ t.insertRange a n ↔ (a ≤ b ∧ b < a + n) ∨ b ∈ t := by
  induction n generalizing t a with
  | zero => exact ⟨.inr, fun h => h.elim (fun h => absurd h (by omega)) id⟩
  | succ n ih =>
    rw [AddrSet.insertRange, ih, AddrSet.mem_insert]
    constructor
    · rintro (h | h | h)
      · exact .inl (by omega)
      · exact .inl (by omega)
      · exact .inr h
    · rintro (h | h)
      · by_cases e : b = a
        · exact .inr (.inl e)
        · exact .inl (by omega)
      · exact .inr (.inr h)

theorem AddrSet.insertRange_wf {t : AddrSet} (a n : Nat) (h : t.wf) : (t.insertRange a n).wf := by
  induction n generalizing t a with
  | zero => exact h
  | succ n ih => exact ih (a + 1) (AddrSet.insert_wf a h)

/-! ## A pattern and its bytes (R51) -/

@[simp] theorem splitBytes_length (n : Nat) (v : Word) : (splitBytes n v).length = n := by
  induction n generalizing v with
  | zero => rfl
  | succ n ih => simp [splitBytes, ih]

/-- Byte `i` of a pattern is its bits `8i+7` to `8i`. -/
theorem splitBytes_getElem? {n i : Nat} (v : Word) (h : i < n) :
    (splitBytes n v)[i]? = some ((v >>> (8 * i)).setWidth 8) := by
  induction n generalizing v i with
  | zero => omega
  | succ n ih =>
    cases i with
    | zero => simp [splitBytes]
    | succ i =>
      rw [splitBytes, List.getElem?_cons_succ, ih (v >>> 8) (by omega), ← BitVec.shiftRight_add,
        show 8 + 8 * i = 8 * (i + 1) by omega]

/-- Bit `i` of the pattern of the low `n` bytes of `v` is bit `i` of `v` below `8n`, and 0 above. -/
theorem joinBytes_splitBytes_bit (n : Nat) (v : Word) (i : Nat) :
    (joinBytes (splitBytes n v)).getLsbD i = (decide (i < 8 * n) && v.getLsbD i) := by
  induction n generalizing v i with
  | zero => simp [splitBytes, joinBytes]
  | succ n ih =>
    rw [splitBytes, joinBytes, BitVec.getLsbD_or, BitVec.getLsbD_setWidth, BitVec.getLsbD_setWidth,
      BitVec.getLsbD_shiftLeft, ih, BitVec.getLsbD_ushiftRight]
    by_cases h32 : i < 32
    · by_cases h8 : i < 8
      · simp [h32, h8, show i < 8 * (n + 1) by omega]
      · simp only [h32, h8, decide_true, decide_false, Bool.true_and, Bool.false_and, Bool.false_or, Bool.not_false,
          show 8 + (i - 8) = i by omega, show (i - 8 < 8 * n) = (i < 8 * (n + 1)) by simp only [eq_iff_iff]; omega]
    · simp [h32, BitVec.getLsbD_of_ge v i (by omega)]

theorem joinBytes_splitBytes_four (v : Word) : joinBytes (splitBytes 4 v) = v := by
  refine BitVec.eq_of_getLsbD_eq fun i hi => ?_
  rw [joinBytes_splitBytes_bit]; simp [hi]

theorem joinBytes_splitBytes_two (v : Word) : joinBytes (splitBytes 2 v) = (v.extractLsb 15 0).setWidth 32 := by
  refine BitVec.eq_of_getLsbD_eq fun i hi => ?_
  rw [joinBytes_splitBytes_bit, BitVec.getLsbD_setWidth, BitVec.extractLsb, BitVec.getLsbD_extractLsb']
  simp [hi]

theorem joinBytes_splitBytes_one (v : Word) : joinBytes (splitBytes 1 v) = (v.extractLsb 7 0).setWidth 32 := by
  refine BitVec.eq_of_getLsbD_eq fun i hi => ?_
  rw [joinBytes_splitBytes_bit, BitVec.getLsbD_setWidth, BitVec.extractLsb, BitVec.getLsbD_extractLsb']
  simp [hi]

end Sys2Proof.Machine
end

