-- ==== Sys2Proof/Laws/Ops.lean ====
section
/-! SUPPORT. What each operation of Ops.lean does to each field of State: once, so that no proof unfolds a record
update. -/

namespace Sys2Proof.Machine

open Sys2Proof

variable (s : State)

/-! ## Fields an operation leaves as they are -/

@[simp] theorem writeReg_pc (r : Reg) (v : Word) : (writeReg r v s).pc = s.pc := rfl
@[simp] theorem writeReg_mstatus (r : Reg) (v : Word) : (writeReg r v s).mstatus = s.mstatus := rfl
@[simp] theorem writeReg_mtvec (r : Reg) (v : Word) : (writeReg r v s).mtvec = s.mtvec := rfl
@[simp] theorem writeReg_mscratch (r : Reg) (v : Word) : (writeReg r v s).mscratch = s.mscratch := rfl
@[simp] theorem writeReg_mepc (r : Reg) (v : Word) : (writeReg r v s).mepc = s.mepc := rfl
@[simp] theorem writeReg_mcause (r : Reg) (v : Word) : (writeReg r v s).mcause = s.mcause := rfl
@[simp] theorem writeReg_mtval (r : Reg) (v : Word) : (writeReg r v s).mtval = s.mtval := rfl
@[simp] theorem writeReg_lm (r : Reg) (v : Word) : (writeReg r v s).lm = s.lm := rfl
@[simp] theorem writeReg_mem (r : Reg) (v : Word) : (writeReg r v s).mem = s.mem := rfl
@[simp] theorem writeReg_storedSinceFenceI (r : Reg) (v : Word) : (writeReg r v s).storedSinceFenceI = s.storedSinceFenceI := rfl
@[simp] theorem writeReg_cycles (r : Reg) (v : Word) : (writeReg r v s).cycles = s.cycles := rfl
@[simp] theorem writeReg_memMap (r : Reg) (v : Word) : (writeReg r v s).memMap = s.memMap := rfl
@[simp] theorem writeReg_monitorReads (r : Reg) (v : Word) : (writeReg r v s).monitorReads = s.monitorReads := rfl
@[simp] theorem writeReg_monitorWrites (r : Reg) (v : Word) : (writeReg r v s).monitorWrites = s.monitorWrites := rfl
@[simp] theorem writeReg_draws (r : Reg) (v : Word) : (writeReg r v s).draws = s.draws := rfl

@[simp] theorem advance_regs (ilen : Word) : (advance ilen s).regs = s.regs := rfl
@[simp] theorem advance_mstatus (ilen : Word) : (advance ilen s).mstatus = s.mstatus := rfl
@[simp] theorem advance_mtvec (ilen : Word) : (advance ilen s).mtvec = s.mtvec := rfl
@[simp] theorem advance_mscratch (ilen : Word) : (advance ilen s).mscratch = s.mscratch := rfl
@[simp] theorem advance_mepc (ilen : Word) : (advance ilen s).mepc = s.mepc := rfl
@[simp] theorem advance_mcause (ilen : Word) : (advance ilen s).mcause = s.mcause := rfl
@[simp] theorem advance_mtval (ilen : Word) : (advance ilen s).mtval = s.mtval := rfl
@[simp] theorem advance_lm (ilen : Word) : (advance ilen s).lm = s.lm := rfl
@[simp] theorem advance_mem (ilen : Word) : (advance ilen s).mem = s.mem := rfl
@[simp] theorem advance_storedSinceFenceI (ilen : Word) : (advance ilen s).storedSinceFenceI = s.storedSinceFenceI := rfl
@[simp] theorem advance_cycles (ilen : Word) : (advance ilen s).cycles = s.cycles := rfl
@[simp] theorem advance_memMap (ilen : Word) : (advance ilen s).memMap = s.memMap := rfl
@[simp] theorem advance_monitorReads (ilen : Word) : (advance ilen s).monitorReads = s.monitorReads := rfl
@[simp] theorem advance_monitorWrites (ilen : Word) : (advance ilen s).monitorWrites = s.monitorWrites := rfl
@[simp] theorem advance_draws (ilen : Word) : (advance ilen s).draws = s.draws := rfl

@[simp] theorem charge_regs (c : Cost) : (charge c s).regs = s.regs := rfl
@[simp] theorem charge_pc (c : Cost) : (charge c s).pc = s.pc := rfl
@[simp] theorem charge_mstatus (c : Cost) : (charge c s).mstatus = s.mstatus := rfl
@[simp] theorem charge_mtvec (c : Cost) : (charge c s).mtvec = s.mtvec := rfl
@[simp] theorem charge_mscratch (c : Cost) : (charge c s).mscratch = s.mscratch := rfl
@[simp] theorem charge_mepc (c : Cost) : (charge c s).mepc = s.mepc := rfl
@[simp] theorem charge_mcause (c : Cost) : (charge c s).mcause = s.mcause := rfl
@[simp] theorem charge_mtval (c : Cost) : (charge c s).mtval = s.mtval := rfl
@[simp] theorem charge_lm (c : Cost) : (charge c s).lm = s.lm := rfl
@[simp] theorem charge_mem (c : Cost) : (charge c s).mem = s.mem := rfl
@[simp] theorem charge_storedSinceFenceI (c : Cost) : (charge c s).storedSinceFenceI = s.storedSinceFenceI := rfl
@[simp] theorem charge_memMap (c : Cost) : (charge c s).memMap = s.memMap := rfl
@[simp] theorem charge_monitorReads (c : Cost) : (charge c s).monitorReads = s.monitorReads := rfl
@[simp] theorem charge_monitorWrites (c : Cost) : (charge c s).monitorWrites = s.monitorWrites := rfl

@[simp] theorem takeTrap_regs (e : Exception) : (takeTrap e s).regs = s.regs := rfl
@[simp] theorem takeTrap_mtvec (e : Exception) : (takeTrap e s).mtvec = s.mtvec := rfl
@[simp] theorem takeTrap_mscratch (e : Exception) : (takeTrap e s).mscratch = s.mscratch := rfl
@[simp] theorem takeTrap_lm (e : Exception) : (takeTrap e s).lm = s.lm := rfl
@[simp] theorem takeTrap_mem (e : Exception) : (takeTrap e s).mem = s.mem := rfl
@[simp] theorem takeTrap_storedSinceFenceI (e : Exception) : (takeTrap e s).storedSinceFenceI = s.storedSinceFenceI := rfl
@[simp] theorem takeTrap_memMap (e : Exception) : (takeTrap e s).memMap = s.memMap := rfl
@[simp] theorem takeTrap_monitorReads (e : Exception) : (takeTrap e s).monitorReads = s.monitorReads := rfl
@[simp] theorem takeTrap_monitorWrites (e : Exception) : (takeTrap e s).monitorWrites = s.monitorWrites := rfl

@[simp] theorem returnFromTrap_regs : (returnFromTrap s).regs = s.regs := rfl
@[simp] theorem returnFromTrap_mtvec : (returnFromTrap s).mtvec = s.mtvec := rfl
@[simp] theorem returnFromTrap_mscratch : (returnFromTrap s).mscratch = s.mscratch := rfl
@[simp] theorem returnFromTrap_mepc : (returnFromTrap s).mepc = s.mepc := rfl
@[simp] theorem returnFromTrap_mcause : (returnFromTrap s).mcause = s.mcause := rfl
@[simp] theorem returnFromTrap_mtval : (returnFromTrap s).mtval = s.mtval := rfl
@[simp] theorem returnFromTrap_lm : (returnFromTrap s).lm = s.lm := rfl
@[simp] theorem returnFromTrap_mem : (returnFromTrap s).mem = s.mem := rfl
@[simp] theorem returnFromTrap_storedSinceFenceI : (returnFromTrap s).storedSinceFenceI = s.storedSinceFenceI := rfl
@[simp] theorem returnFromTrap_cycles : (returnFromTrap s).cycles = s.cycles := rfl
@[simp] theorem returnFromTrap_memMap : (returnFromTrap s).memMap = s.memMap := rfl
@[simp] theorem returnFromTrap_monitorReads : (returnFromTrap s).monitorReads = s.monitorReads := rfl
@[simp] theorem returnFromTrap_monitorWrites : (returnFromTrap s).monitorWrites = s.monitorWrites := rfl
@[simp] theorem returnFromTrap_draws : (returnFromTrap s).draws = s.draws := rfl

@[simp] theorem storeBytes_regs (n : Nat) (addr v : Word) : (storeBytes n addr v s).regs = s.regs := rfl
@[simp] theorem storeBytes_pc (n : Nat) (addr v : Word) : (storeBytes n addr v s).pc = s.pc := rfl
@[simp] theorem storeBytes_mstatus (n : Nat) (addr v : Word) : (storeBytes n addr v s).mstatus = s.mstatus := rfl
@[simp] theorem storeBytes_mtvec (n : Nat) (addr v : Word) : (storeBytes n addr v s).mtvec = s.mtvec := rfl
@[simp] theorem storeBytes_mscratch (n : Nat) (addr v : Word) : (storeBytes n addr v s).mscratch = s.mscratch := rfl
@[simp] theorem storeBytes_mepc (n : Nat) (addr v : Word) : (storeBytes n addr v s).mepc = s.mepc := rfl
@[simp] theorem storeBytes_mcause (n : Nat) (addr v : Word) : (storeBytes n addr v s).mcause = s.mcause := rfl
@[simp] theorem storeBytes_mtval (n : Nat) (addr v : Word) : (storeBytes n addr v s).mtval = s.mtval := rfl
@[simp] theorem storeBytes_lm (n : Nat) (addr v : Word) : (storeBytes n addr v s).lm = s.lm := rfl
@[simp] theorem storeBytes_cycles (n : Nat) (addr v : Word) : (storeBytes n addr v s).cycles = s.cycles := rfl
@[simp] theorem storeBytes_memMap (n : Nat) (addr v : Word) : (storeBytes n addr v s).memMap = s.memMap := rfl
@[simp] theorem storeBytes_monitorReads (n : Nat) (addr v : Word) : (storeBytes n addr v s).monitorReads = s.monitorReads := rfl
@[simp] theorem storeBytes_monitorWrites (n : Nat) (addr v : Word) : (storeBytes n addr v s).monitorWrites = s.monitorWrites := rfl
@[simp] theorem storeBytes_draws (n : Nat) (addr v : Word) : (storeBytes n addr v s).draws = s.draws := rfl

@[simp] theorem afterReadAnswer_regs : (afterReadAnswer s).regs = s.regs := rfl
@[simp] theorem afterReadAnswer_pc : (afterReadAnswer s).pc = s.pc := rfl
@[simp] theorem afterReadAnswer_mstatus : (afterReadAnswer s).mstatus = s.mstatus := rfl
@[simp] theorem afterReadAnswer_mtvec : (afterReadAnswer s).mtvec = s.mtvec := rfl
@[simp] theorem afterReadAnswer_mscratch : (afterReadAnswer s).mscratch = s.mscratch := rfl
@[simp] theorem afterReadAnswer_mepc : (afterReadAnswer s).mepc = s.mepc := rfl
@[simp] theorem afterReadAnswer_mcause : (afterReadAnswer s).mcause = s.mcause := rfl
@[simp] theorem afterReadAnswer_mtval : (afterReadAnswer s).mtval = s.mtval := rfl
@[simp] theorem afterReadAnswer_lm : (afterReadAnswer s).lm = s.lm := rfl
@[simp] theorem afterReadAnswer_mem : (afterReadAnswer s).mem = s.mem := rfl
@[simp] theorem afterReadAnswer_storedSinceFenceI : (afterReadAnswer s).storedSinceFenceI = s.storedSinceFenceI := rfl
@[simp] theorem afterReadAnswer_cycles : (afterReadAnswer s).cycles = s.cycles := rfl
@[simp] theorem afterReadAnswer_memMap : (afterReadAnswer s).memMap = s.memMap := rfl
@[simp] theorem afterReadAnswer_monitorWrites : (afterReadAnswer s).monitorWrites = s.monitorWrites := rfl

@[simp] theorem afterWriteAnswer_regs : (afterWriteAnswer s).regs = s.regs := rfl
@[simp] theorem afterWriteAnswer_pc : (afterWriteAnswer s).pc = s.pc := rfl
@[simp] theorem afterWriteAnswer_mstatus : (afterWriteAnswer s).mstatus = s.mstatus := rfl
@[simp] theorem afterWriteAnswer_mtvec : (afterWriteAnswer s).mtvec = s.mtvec := rfl
@[simp] theorem afterWriteAnswer_mscratch : (afterWriteAnswer s).mscratch = s.mscratch := rfl
@[simp] theorem afterWriteAnswer_mepc : (afterWriteAnswer s).mepc = s.mepc := rfl
@[simp] theorem afterWriteAnswer_mcause : (afterWriteAnswer s).mcause = s.mcause := rfl
@[simp] theorem afterWriteAnswer_mtval : (afterWriteAnswer s).mtval = s.mtval := rfl
@[simp] theorem afterWriteAnswer_lm : (afterWriteAnswer s).lm = s.lm := rfl
@[simp] theorem afterWriteAnswer_mem : (afterWriteAnswer s).mem = s.mem := rfl
@[simp] theorem afterWriteAnswer_storedSinceFenceI : (afterWriteAnswer s).storedSinceFenceI = s.storedSinceFenceI := rfl
@[simp] theorem afterWriteAnswer_cycles : (afterWriteAnswer s).cycles = s.cycles := rfl
@[simp] theorem afterWriteAnswer_memMap : (afterWriteAnswer s).memMap = s.memMap := rfl
@[simp] theorem afterWriteAnswer_monitorReads : (afterWriteAnswer s).monitorReads = s.monitorReads := rfl

@[simp] theorem afterCsrRead_regs (c : Csr) : (afterCsrRead c s).regs = s.regs := rfl
@[simp] theorem afterCsrRead_pc (c : Csr) : (afterCsrRead c s).pc = s.pc := rfl
@[simp] theorem afterCsrRead_mstatus (c : Csr) : (afterCsrRead c s).mstatus = s.mstatus := rfl
@[simp] theorem afterCsrRead_mtvec (c : Csr) : (afterCsrRead c s).mtvec = s.mtvec := rfl
@[simp] theorem afterCsrRead_mscratch (c : Csr) : (afterCsrRead c s).mscratch = s.mscratch := rfl
@[simp] theorem afterCsrRead_mepc (c : Csr) : (afterCsrRead c s).mepc = s.mepc := rfl
@[simp] theorem afterCsrRead_mcause (c : Csr) : (afterCsrRead c s).mcause = s.mcause := rfl
@[simp] theorem afterCsrRead_mtval (c : Csr) : (afterCsrRead c s).mtval = s.mtval := rfl
@[simp] theorem afterCsrRead_lm (c : Csr) : (afterCsrRead c s).lm = s.lm := rfl
@[simp] theorem afterCsrRead_mem (c : Csr) : (afterCsrRead c s).mem = s.mem := rfl
@[simp] theorem afterCsrRead_storedSinceFenceI (c : Csr) : (afterCsrRead c s).storedSinceFenceI = s.storedSinceFenceI := rfl
@[simp] theorem afterCsrRead_cycles (c : Csr) : (afterCsrRead c s).cycles = s.cycles := rfl
@[simp] theorem afterCsrRead_memMap (c : Csr) : (afterCsrRead c s).memMap = s.memMap := rfl
@[simp] theorem afterCsrRead_monitorReads (c : Csr) : (afterCsrRead c s).monitorReads = s.monitorReads := rfl
@[simp] theorem afterCsrRead_monitorWrites (c : Csr) : (afterCsrRead c s).monitorWrites = s.monitorWrites := rfl

@[simp] theorem csrWrite_regs (c : Csr) (v : Word) : (csrWrite c v s).regs = s.regs := by cases c <;> rfl
@[simp] theorem csrWrite_pc (c : Csr) (v : Word) : (csrWrite c v s).pc = s.pc := by cases c <;> rfl
@[simp] theorem csrWrite_lm (c : Csr) (v : Word) : (csrWrite c v s).lm = s.lm := by cases c <;> rfl
@[simp] theorem csrWrite_mem (c : Csr) (v : Word) : (csrWrite c v s).mem = s.mem := by cases c <;> rfl
@[simp] theorem csrWrite_storedSinceFenceI (c : Csr) (v : Word) : (csrWrite c v s).storedSinceFenceI = s.storedSinceFenceI := by cases c <;> rfl
@[simp] theorem csrWrite_cycles (c : Csr) (v : Word) : (csrWrite c v s).cycles = s.cycles := by cases c <;> rfl
@[simp] theorem csrWrite_memMap (c : Csr) (v : Word) : (csrWrite c v s).memMap = s.memMap := by cases c <;> rfl
@[simp] theorem csrWrite_monitorReads (c : Csr) (v : Word) : (csrWrite c v s).monitorReads = s.monitorReads := by cases c <;> rfl
@[simp] theorem csrWrite_monitorWrites (c : Csr) (v : Word) : (csrWrite c v s).monitorWrites = s.monitorWrites := by cases c <;> rfl
@[simp] theorem csrWrite_draws (c : Csr) (v : Word) : (csrWrite c v s).draws = s.draws := by cases c <;> rfl

/-! ## Fields an operation writes -/

@[simp] theorem advance_pc (ilen : Word) : (advance ilen s).pc = s.pc + ilen := rfl
@[simp] theorem writeReg_regs (r : Reg) (v : Word) : (writeReg r v s).regs = regsWith r v s.regs := rfl
theorem charge_cycles (c : Cost) : (charge c s).cycles = s.cycles + c.cycles s.draws := rfl
theorem charge_draws (c : Cost) : (charge c s).draws = c.drawsAfter s.draws := rfl
@[simp] theorem charge_exactly_cycles (n : Nat) : (charge (.exactly n) s).cycles = s.cycles + n := rfl
@[simp] theorem charge_exactly_draws (n : Nat) : (charge (.exactly n) s).draws = s.draws := rfl
@[simp] theorem takeTrap_pc (e : Exception) : (takeTrap e s).pc = trapTarget s := rfl
@[simp] theorem takeTrap_mepc (e : Exception) : (takeTrap e s).mepc = clearBit0 s.pc := rfl
@[simp] theorem takeTrap_mcause (e : Exception) : (takeTrap e s).mcause = e.code := rfl
@[simp] theorem takeTrap_mtval (e : Exception) : (takeTrap e s).mtval = Config.freeWord s.draws := rfl
@[simp] theorem takeTrap_mstatus (e : Exception) :
    (takeTrap e s).mstatus = { mie := false, mpie := s.mstatus.mie } := rfl
theorem takeTrap_cycles (e : Exception) : (takeTrap e s).cycles = s.cycles + e.cost.cycles (s.draws + 1) := rfl
@[simp] theorem returnFromTrap_pc : (returnFromTrap s).pc = s.mepc := rfl
@[simp] theorem returnFromTrap_mstatus :
    (returnFromTrap s).mstatus = { mie := s.mstatus.mpie, mpie := true } := rfl
theorem storeBytes_mem (n : Nat) (addr v : Word) :
    (storeBytes n addr v s).mem = s.mem.writeBytes addr.toNat (splitBytes n v) := rfl
theorem storeBytes_storedSinceFenceI (n : Nat) (addr v : Word) :
    (storeBytes n addr v s).storedSinceFenceI = s.storedSinceFenceI.insertRange addr.toNat n := rfl

/-- A cost between `lo` and `hi` is in that range, and every number of the range is some free value's. -/
theorem between_cycles_range {lo hi : Nat} (h : lo ≤ hi) (d : Nat) :
    lo ≤ (Cost.between lo hi).cycles d ∧ (Cost.between lo hi).cycles d ≤ hi := by
  have := Nat.mod_lt (Config.freeCount d) (show 0 < hi + 1 - lo by omega)
  simp only [Cost.cycles]; omega

/-! ## General registers (R20) -/

theorem regsAt_regsWith (r r' : Reg) (v : Word) (x : Vector Word 31) :
    regsAt r' (regsWith r v x) = if r' = r ∧ r ≠ 0 then v else regsAt r' x := by
  have hz : ∀ q : Reg, q.val = 0 ↔ q = 0 := fun q => by rw [Fin.ext_iff]; rfl
  unfold regsAt regsWith
  by_cases h' : r'.val = 0
  · rw [dif_pos h', dif_pos h', if_neg]
    rintro ⟨e, n⟩; exact n ((hz r).1 (e ▸ h'))
  · rw [dif_neg h', dif_neg h']
    by_cases h : r.val = 0
    · simp only [dif_pos h]
      rw [if_neg fun x => x.2 ((hz r).1 h)]
    · simp only [dif_neg h]
      by_cases e : r' = r
      · subst e; rw [if_pos ⟨rfl, fun x => h ((hz r').2 x)⟩, Vector.getElem_set_self]
      · rw [if_neg fun x => e x.1, Vector.getElem_set_ne _ _ (by
          intro x; apply e; apply Fin.ext; omega)]

/-- A read after a write: the written value for the register written, if it is not `x0`; else the old value. -/
theorem readReg_writeReg (r r' : Reg) (v : Word) :
    readReg r' (writeReg r v s) = if r' = r ∧ r ≠ 0 then v else readReg r' s := regsAt_regsWith r r' v s.regs

@[simp] theorem readReg_zero : readReg 0 s = 0 := rfl
@[simp] theorem writeReg_zero (v : Word) : writeReg 0 v s = s := rfl

theorem readReg_writeReg_same {r : Reg} (h : r ≠ 0) (v : Word) : readReg r (writeReg r v s) = v := by
  rw [readReg_writeReg, if_pos ⟨rfl, h⟩]

theorem readReg_writeReg_other {r r' : Reg} (h : r' ≠ r) (v : Word) :
    readReg r' (writeReg r v s) = readReg r' s := by
  rw [readReg_writeReg, if_neg fun x => h x.1]

/-- Reading a register looks at the register file only. -/
theorem readReg_congr {s t : State} (h : t.regs = s.regs) (r : Reg) : readReg r t = readReg r s := by
  rw [readReg, readReg, h]

@[simp] theorem readReg_advance (r : Reg) (ilen : Word) : readReg r (advance ilen s) = readReg r s := rfl
@[simp] theorem readReg_charge (r : Reg) (c : Cost) : readReg r (charge c s) = readReg r s := rfl
@[simp] theorem readReg_takeTrap (r : Reg) (e : Exception) : readReg r (takeTrap e s) = readReg r s := rfl
@[simp] theorem readReg_returnFromTrap (r : Reg) : readReg r (returnFromTrap s) = readReg r s := rfl
@[simp] theorem readReg_storeBytes (r : Reg) (n : Nat) (addr v : Word) : readReg r (storeBytes n addr v s) = readReg r s := rfl
@[simp] theorem readReg_afterReadAnswer (r : Reg) : readReg r (afterReadAnswer s) = readReg r s := rfl
@[simp] theorem readReg_afterWriteAnswer (r : Reg) : readReg r (afterWriteAnswer s) = readReg r s := rfl
@[simp] theorem readReg_afterCsrRead (r : Reg) (c : Csr) : readReg r (afterCsrRead c s) = readReg r s := rfl
@[simp] theorem readReg_csrWrite (r : Reg) (c : Csr) (v : Word) : readReg r (csrWrite c v s) = readReg r s := by
  cases c <;> rfl
@[simp] theorem readReg_setPc (r : Reg) (v : Word) : readReg r (s.setPc v) = readReg r s := rfl
@[simp] theorem readReg_setLm (r : Reg) (v : Bool) : readReg r (s.setLm v) = readReg r s := rfl

/-! ## Data accesses (R57) -/

theorem memRead_misaligned {by' : AccessBy} {ks : List AccessKind} {n : Nat} {addr : Word} {s : State}
    (h : naturallyAligned n addr = false) : memRead by' ks n addr s = .raises (misalignedFor by' addr) := by
  simp [memRead, h]

theorem memRead_unbacked {by' : AccessBy} {ks : List AccessKind} {n : Nat} {addr : Word} {s : State}
    (h : naturallyAligned n addr = true) (hb : backedAll ks n addr s = false) :
    memRead by' ks n addr s = .raises (accessFaultFor by' addr) := by
  simp [memRead, h, hb]

theorem memRead_noValue {by' : AccessBy} {ks : List AccessKind} {n : Nat} {addr : Word} {s : State}
    (h : naturallyAligned n addr = true) (hb : backedAll ks n addr s = true)
    (hm : s.mem.readBytes n addr.toNat = none) : memRead by' ks n addr s = .faults (.memoryHoldsNoValue addr n) := by
  simp [memRead, h, hb, hm]

theorem memRead_value {by' : AccessBy} {ks : List AccessKind} {n : Nat} {addr : Word} {s : State} {bs : List Byte}
    (h : naturallyAligned n addr = true) (hb : backedAll ks n addr s = true)
    (hm : s.mem.readBytes n addr.toNat = some bs) : memRead by' ks n addr s = .value (joinBytes bs) := by
  simp [memRead, h, hb, hm]

/-- A read that gives a value was aligned, backed, and of bytes that hold values. -/
theorem memRead_value_inv {by' : AccessBy} {ks : List AccessKind} {n : Nat} {addr v : Word} {s : State}
    (h : memRead by' ks n addr s = .value v) : naturallyAligned n addr = true ∧ backedAll ks n addr s = true ∧
      ∃ bs, s.mem.readBytes n addr.toNat = some bs ∧ v = joinBytes bs := by
  unfold memRead at h
  split at h
  · cases h
  · next ha =>
    split at h
    · cases h
    · next hb =>
      refine ⟨by simpa using ha, by simpa using hb, ?_⟩
      split at h
      · cases h
      · next bs hm => cases h; exact ⟨bs, hm, rfl⟩

theorem memWrite_misaligned {ks : List AccessKind} {n : Nat} {addr v : Word} {s : State}
    (h : naturallyAligned n addr = false) : memWrite ks n addr v s = .error (.storeAmoAddressMisaligned addr) := by
  simp [memWrite, h]

theorem memWrite_unbacked {ks : List AccessKind} {n : Nat} {addr v : Word} {s : State}
    (h : naturallyAligned n addr = true) (hb : backedAll ks n addr s = false) :
    memWrite ks n addr v s = .error (.storeAmoAccessFault addr) := by
  simp [memWrite, h, hb]

theorem memWrite_ok {ks : List AccessKind} {n : Nat} {addr v : Word} {s : State}
    (h : naturallyAligned n addr = true) (hb : backedAll ks n addr s = true) :
    memWrite ks n addr v s = .ok (storeBytes n addr v s) := by
  simp [memWrite, h, hb]

/-- A write that succeeds was aligned and backed, and stored the bytes. -/
theorem memWrite_ok_inv {ks : List AccessKind} {n : Nat} {addr v : Word} {s t : State}
    (h : memWrite ks n addr v s = .ok t) :
    naturallyAligned n addr = true ∧ backedAll ks n addr s = true ∧ t = storeBytes n addr v s := by
  unfold memWrite at h
  split at h
  · cases h
  · next ha =>
    split at h
    · cases h
    · next hb => cases h; exact ⟨by simpa using ha, by simpa using hb, rfl⟩

/-- A backed range lies in the address space. -/
theorem backed_range {k : AccessKind} {n : Nat} {addr : Word} {s : State} (h : backed k n addr s = true) :
    addr.toNat + n ≤ 2 ^ 32 := by
  unfold backed at h
  exact of_decide_eq_true (Bool.and_eq_true_iff.1 h).1

/-- What is backed depends on the map only. -/
theorem backed_congr {s t : State} (h : t.memMap = s.memMap) (k : AccessKind) (n : Nat) (addr : Word) :
    backed k n addr t = backed k n addr s := by
  rw [backed, backed, h]

/-- A store's bytes, read one at a time: inside the store the bytes of the value, outside it the old ones. -/
theorem read_storeBytes (n : Nat) (addr v : Word) (a : Nat) :
    (storeBytes n addr v s).mem.read a =
      if addr.toNat ≤ a ∧ a < addr.toNat + n then some ((v >>> (8 * (a - addr.toNat))).setWidth 8)
      else s.mem.read a := by
  rw [storeBytes_mem, Memory.read_writeBytes, splitBytes_length]
  split
  · exact splitBytes_getElem? v (by omega)
  · rfl

theorem storeBytes_mem_wf {s : State} {n : Nat} {addr : Word} (v : Word) (h : s.mem.wf)
    (ha : addr.toNat + n ≤ 2 ^ 32) : (storeBytes n addr v s).mem.wf := by
  rw [storeBytes_mem]
  exact Memory.writeBytes_wf h (by rw [splitBytes_length]; exact ha)

/-! ## Control and status registers (R280) -/

/-- A read of the register just written, for every value: the writable bits of it (R30 to R35). -/
theorem csrValue_csrWrite_same (c : Csr) (v : Word) : csrValue c (csrWrite c v s) =
    match c with
    | .mstatus => mstatusWord (mstatusOf v)
    | .mtvec => mtvecWord (mtvecOf v)
    | .mscratch => v
    | .mepc => clearBit0 v
    | .mcause => if mcauseLegal v then v else Config.freeWord s.draws
    | .mtval => v := by
  cases c <;> rfl

/-- A write to one register leaves what the others read. -/
theorem csrValue_csrWrite_other {c d : Csr} (h : c ≠ d) (v : Word) : csrValue c (csrWrite d v s) = csrValue c s := by
  cases c <;> cases d <;> first | rfl | exact absurd rfl h

theorem csrOf_eq_some {a : BitVec 12} {c : Csr} (h : csrOf a = some c) :
    (a = 0x300 ∧ c = .mstatus) ∨ (a = 0x305 ∧ c = .mtvec) ∨ (a = 0x340 ∧ c = .mscratch) ∨ (a = 0x341 ∧ c = .mepc) ∨
      (a = 0x342 ∧ c = .mcause) ∨ (a = 0x343 ∧ c = .mtval) := by
  unfold csrOf at h
  split at h
  · cases h; exact .inl ⟨‹_›, rfl⟩
  split at h
  · cases h; exact .inr (.inl ⟨‹_›, rfl⟩)
  split at h
  · cases h; exact .inr (.inr (.inl ⟨‹_›, rfl⟩))
  split at h
  · cases h; exact .inr (.inr (.inr (.inl ⟨‹_›, rfl⟩)))
  split at h
  · cases h; exact .inr (.inr (.inr (.inr (.inl ⟨‹_›, rfl⟩))))
  split at h
  · cases h; exact .inr (.inr (.inr (.inr (.inr ⟨‹_›, rfl⟩))))
  · cases h

/-! ## Bit 0 (R26, R32, R151) -/

@[simp] theorem clearBit0_bit0 (v : Word) : (clearBit0 v).getLsbD 0 = false := by simp [clearBit0]

@[simp] theorem trapTarget_bit0 : (trapTarget s).getLsbD 0 = false := by
  rw [trapTarget, BitVec.getLsbD_append]; rfl

end Sys2Proof.Machine
end

