-- ==== Sys2Proof/Laws/Meanings.lean ====
section
/-! SUPPORT. Everything each operation the meanings share can do: an equation for each of its ways out, and one lemma
that lists them. -/

namespace Sys2Proof.Machine

open Sys2Proof

/-! ## Computation and control transfer -/

theorem writeBack_eq (ilen : Word) (c : Cost) (rd : Reg) (v : Word) (s : State) :
    writeBack ilen c rd v s = .next (charge c (advance ilen (writeReg rd v s))) := rfl

theorem compute_eq (ilen : Word) (rd : Reg) (v : Word) (s : State) :
    compute ilen rd v s = .next (charge (.exactly 1) (advance ilen (writeReg rd v s))) := rfl

theorem multiply_eq (rd : Reg) (v : Word) (s : State) : multiply rd v s =
    .next (charge (dependencyCost rd (nextInstr (advance 4 (writeReg rd v s)))) (advance 4 (writeReg rd v s))) := rfl

theorem jump_eq (ilen : Word) (rd : Reg) (target : Word) (s : State) : jump ilen rd target s =
    .next (charge (jumpCost ((writeReg rd (s.pc + ilen) s).setPc target))
      ((writeReg rd (s.pc + ilen) s).setPc target)) := rfl

theorem branch_taken (ilen target : Word) (s : State) :
    branch ilen true target s = .next (charge (jumpCost (s.setPc target)) (s.setPc target)) := rfl

theorem branch_nontaken (ilen target : Word) (s : State) :
    branch ilen false target s = .next (charge (.exactly 1) (advance ilen s)) := rfl

/-- A parcel is there exactly when the map backs its fetch and both bytes hold a value. -/
theorem parcelAt_eq_some (addr : Word) (s : State) (h : Half) : parcelAt addr s = some h ↔
    backed .fetch 2 addr s = true ∧ ∃ b0 b1, s.mem.read addr.toNat = some b0 ∧ s.mem.read (addr.toNat + 1) = some b1 ∧
      parcelOf b0 b1 = h := by
  unfold parcelAt
  split
  · rename_i hb
    cases h0 : s.mem.read addr.toNat <;> cases h1 : s.mem.read (addr.toNat + 1) <;> simp [Memory.readBytes, h0, h1, hb]
  · rename_i hb
    simp [hb]

/-- What a fetch gives is the parcel there. -/
theorem parcelAt_of_fetchParcel {pc addr : Word} {s : State} {h : Half} (hf : fetchParcel pc addr s = .got h) :
    parcelAt addr s = some h := by
  unfold fetchParcel at hf
  split at hf
  · cases hf
  · rename_i hb
    split at hf
    · cases hf
    · split at hf
      · rename_i b0 b1 hr
        simp only [Bool.not_eq_true, Bool.not_eq_false'] at hb
        simp only [parcelAt, hb, if_true, hr]
        exact congrArg some (Fetched.got.inj hf)
      · cases hf

/-- A target is unaligned exactly when it is 2 modulo 4 and the parcel there is the first of a 32-bit instruction. -/
theorem unalignedTarget_iff (target : Word) (s : State) : unalignedTarget target s = true ↔
    target.extractLsb 1 0 = 2#2 ∧ ∃ h, parcelAt target s = some h ∧ isLong h = true := by
  simp [unalignedTarget, Option.any_eq_true]

@[simp] theorem unalignedTarget_setPc (target pc : Word) (s : State) :
    unalignedTarget target (s.setPc pc) = unalignedTarget target s := rfl

@[simp] theorem unalignedTarget_writeReg (target : Word) (r : Reg) (v : Word) (s : State) :
    unalignedTarget target (writeReg r v s) = unalignedTarget target s := rfl

/-- A jump costs 3 to an unaligned target, else 2 (R414, R420). -/
theorem jumpCost_eq (s : State) : jumpCost s = .exactly (if unalignedTarget s.pc s then 3 else 2) := rfl

/-- The cost of a result that may be waited for is 1, 2, or between them (R412). -/
theorem dependencyCost_cases (rd : Reg) (j : Option Instr) :
    dependencyCost rd j = .exactly 1 ∨ dependencyCost rd j = .exactly 2 ∨ dependencyCost rd j = .between 1 2 := by
  unfold dependencyCost
  split
  · exact .inl rfl
  · split
    · exact .inr (.inr rfl)
    · split
      · exact .inr (.inl rfl)
      · split
        · exact .inr (.inr rfl)
        · exact .inl rfl

/-! ## Loads and stores -/

theorem loadOp_value {ilen : Word} {n : Nat} {ext : Word → Word} {rd : Reg} {addr v : Word} {s : State}
    (h : memRead .load [.read] n addr s = .value v) : loadOp ilen n ext rd addr s =
      .next (charge (dependencyCost rd (nextInstr (advance ilen (writeReg rd (ext v) s))))
        (advance ilen (writeReg rd (ext v) s))) := by
  simp [loadOp, h]

theorem loadOp_raises {ilen : Word} {n : Nat} {ext : Word → Word} {rd : Reg} {addr : Word} {e : Exception} {s : State}
    (h : memRead .load [.read] n addr s = .raises e) : loadOp ilen n ext rd addr s = .next (takeTrap e s) := by
  simp [loadOp, h]

theorem loadOp_faults {ilen : Word} {n : Nat} {ext : Word → Word} {rd : Reg} {addr : Word} {f : Fault} {s : State}
    (h : memRead .load [.read] n addr s = .faults f) : loadOp ilen n ext rd addr s = .fault f := by
  simp [loadOp, h]

theorem loadOp_next {ilen : Word} {n : Nat} {ext : Word → Word} {rd : Reg} {addr : Word} {s t : State}
    (h : loadOp ilen n ext rd addr s = .next t) :
    (∃ e, memRead .load [.read] n addr s = .raises e ∧ t = takeTrap e s) ∨
    (∃ v c, memRead .load [.read] n addr s = .value v ∧ t = charge c (advance ilen (writeReg rd (ext v) s))) := by
  unfold loadOp at h
  split at h
  · next e he => cases h; exact .inl ⟨e, he, rfl⟩
  · cases h
  · next v hv => cases h; exact .inr ⟨v, _, hv, rfl⟩

theorem storeOp_ok {ilen : Word} {n : Nat} {addr v : Word} {s : State} (h : naturallyAligned n addr = true)
    (hb : backedAll [.write] n addr s = true) : storeOp ilen n addr v s =
      .next (charge (.exactly 1) (advance ilen (storeBytes n addr v s))) := by
  simp [storeOp, memWrite_ok h hb]

theorem storeOp_error {ilen : Word} {n : Nat} {addr v : Word} {e : Exception} {s : State}
    (h : memWrite [.write] n addr v s = .error e) : storeOp ilen n addr v s = .next (takeTrap e s) := by
  simp [storeOp, h]

theorem storeOp_next {ilen : Word} {n : Nat} {addr v : Word} {s t : State} (h : storeOp ilen n addr v s = .next t) :
    (∃ e, memWrite [.write] n addr v s = .error e ∧ t = takeTrap e s) ∨
    (naturallyAligned n addr = true ∧ backedAll [.write] n addr s = true ∧
      t = charge (.exactly 1) (advance ilen (storeBytes n addr v s))) := by
  unfold storeOp at h
  split at h
  · next e he => cases h; exact .inl ⟨e, he, rfl⟩
  · next u hu =>
    cases h
    obtain ⟨ha, hb, rfl⟩ := memWrite_ok_inv hu
    exact .inr ⟨ha, hb, rfl⟩

/-! ## Atomics -/

theorem scDone_eq (rd : Reg) (code : Word) (s : State) :
    ∃ c, scDone rd code s = charge c (advance 4 (writeReg rd code (s.setLm false))) := ⟨_, rfl⟩

/-- Everything an `sc.w` at an aligned address can do (R212). -/
theorem storeConditional_cases (rd : Reg) (addr v : Word) (s : State) :
    (s.lm = false ∧ storeConditional rd addr v s = scDone rd 1 s) ∨
    (s.lm = true ∧ writeAnswer s = .lost ∧ storeConditional rd addr v s = scDone rd 1 (afterWriteAnswer s)) ∨
    (s.lm = true ∧ writeAnswer s = .ok ∧ ∃ e, memWrite exclusiveWriteKinds 4 addr v (afterWriteAnswer s) = .error e ∧
      storeConditional rd addr v s = takeTrap e (afterWriteAnswer s)) ∨
    (s.lm = true ∧ writeAnswer s = .ok ∧ naturallyAligned 4 addr = true ∧ backedAll exclusiveWriteKinds 4 addr s = true ∧
      storeConditional rd addr v s = scDone rd 0 (storeBytes 4 addr v (afterWriteAnswer s))) := by
  unfold storeConditional
  cases hl : s.lm with
  | false => exact .inl ⟨rfl, by simp⟩
  | true =>
    refine .inr ?_
    simp only [Bool.not_true, Bool.false_eq_true, if_false]
    cases ha : writeAnswer s with
    | lost => exact .inl ⟨trivial, rfl, rfl⟩
    | ok =>
      refine .inr ?_
      cases hm : memWrite exclusiveWriteKinds 4 addr v (afterWriteAnswer s) with
      | error e => exact .inl ⟨trivial, rfl, e, rfl, rfl⟩
      | ok t =>
        obtain ⟨h1, h2, rfl⟩ := memWrite_ok_inv hm
        exact .inr ⟨trivial, rfl, h1, h2, rfl⟩

/-- Everything one attempt of an AMO can do (R62). -/
theorem amoAttempt_cases (op : Word → Word → Word) (rd : Reg) (addr old src : Word) (retry : State → State) (s : State) :
    (readAnswer s = .refused ∧
      amoAttempt op rd addr old src retry s = takeTrap (.storeAmoAccessFault addr) (afterReadAnswer s)) ∨
    (readAnswer s = .granted ∧ writeAnswer (afterReadAnswer s) = .lost ∧
      amoAttempt op rd addr old src retry s = retry (charge (.exactly 4) (afterWriteAnswer (afterReadAnswer s)))) ∨
    (readAnswer s = .granted ∧ writeAnswer (afterReadAnswer s) = .ok ∧
      ∃ e, memWrite exclusiveWriteKinds 4 addr (op old src) (afterWriteAnswer (afterReadAnswer s)) = .error e ∧
        amoAttempt op rd addr old src retry s = takeTrap e (afterWriteAnswer (afterReadAnswer s))) ∨
    (readAnswer s = .granted ∧ writeAnswer (afterReadAnswer s) = .ok ∧ naturallyAligned 4 addr = true ∧
      backedAll exclusiveWriteKinds 4 addr s = true ∧
      amoAttempt op rd addr old src retry s = charge (.exactly 4) (advance 4 (writeReg rd old
        (storeBytes 4 addr (op old src) (afterWriteAnswer (afterReadAnswer s)))))) := by
  unfold amoAttempt
  cases hr : readAnswer s with
  | refused => exact .inl ⟨rfl, rfl⟩
  | granted =>
    refine .inr ?_
    cases hw : writeAnswer (afterReadAnswer s) with
    | lost => exact .inl ⟨rfl, rfl, by simp [hw]⟩
    | ok =>
      refine .inr ?_
      cases hm : memWrite exclusiveWriteKinds 4 addr (op old src) (afterWriteAnswer (afterReadAnswer s)) with
      | error e => exact .inl ⟨rfl, rfl, e, rfl, by simp [hw, hm]⟩
      | ok t =>
        obtain ⟨h1, h2, rfl⟩ := memWrite_ok_inv hm
        exact .inr ⟨rfl, rfl, h1, h2, by simp [hw, hm]⟩

theorem amoOp_value {op : Word → Word → Word} {rd rs2 rs1 : Reg} {old : Word} {s : State}
    (h : memRead .storeAmo exclusiveReadKinds 4 (readReg rs1 s) s = .value old) : amoOp op rd rs2 rs1 s =
      .next (amoAttempts op rd (readReg rs1 s) old (readReg rs2 s) s.monitorWrites.length s) := by
  simp [amoOp, h]

theorem amoOp_raises {op : Word → Word → Word} {rd rs2 rs1 : Reg} {e : Exception} {s : State}
    (h : memRead .storeAmo exclusiveReadKinds 4 (readReg rs1 s) s = .raises e) :
    amoOp op rd rs2 rs1 s = .next (takeTrap e s) := by
  simp [amoOp, h]

/-- What holds of every state an attempt ends in, and is kept by a lost attempt, holds of the state after any number
of attempts. -/
theorem amoAttempts_induct {op : Word → Word → Word} {rd : Reg} {addr old src : Word} {P Q : State → Prop}
    (refused : ∀ s, P s → Q (takeTrap (.storeAmoAccessFault addr) (afterReadAnswer s)))
    (raised : ∀ s e, P s → Q (takeTrap e (afterWriteAnswer (afterReadAnswer s))))
    (done : ∀ s, P s → naturallyAligned 4 addr = true → backedAll exclusiveWriteKinds 4 addr s = true →
      Q (charge (.exactly 4) (advance 4 (writeReg rd old
        (storeBytes 4 addr (op old src) (afterWriteAnswer (afterReadAnswer s)))))))
    (again : ∀ s, P s → P (charge (.exactly 4) (afterWriteAnswer (afterReadAnswer s))))
    (stay : ∀ s, P s → Q s) (n : Nat) {s : State} (h : P s) : Q (amoAttempts op rd addr old src n s) := by
  induction n generalizing s with
  | zero =>
    rw [amoAttempts]
    rcases amoAttempt_cases op rd addr old src (fun t => t) s with
      ⟨-, e⟩ | ⟨-, -, e⟩ | ⟨-, -, x, -, e⟩ | ⟨-, -, h1, h2, e⟩
    · rw [e]; exact refused s h
    · rw [e]; exact stay _ (again s h)
    · rw [e]; exact raised s x h
    · rw [e]; exact done s h h1 h2
  | succ n ih =>
    rw [amoAttempts]
    rcases amoAttempt_cases op rd addr old src (amoAttempts op rd addr old src n) s with
      ⟨-, e⟩ | ⟨-, -, e⟩ | ⟨-, -, x, -, e⟩ | ⟨-, -, h1, h2, e⟩
    · rw [e]; exact refused s h
    · rw [e]; exact ih (again s h)
    · rw [e]; exact raised s x h
    · rw [e]; exact done s h h1 h2

/-! ## CSR instructions -/

theorem csrSwap_unknown {rd : Reg} {csr : BitVec 12} {v : Word} {s : State} (h : csrOf csr = none) :
    csrSwap rd csr v s = .refused (.unknownCsr csr) := by
  simp [csrSwap, h]

theorem csrSwap_x0 {csr : BitVec 12} {c : Csr} {v : Word} {s : State} (h : csrOf csr = some c) :
    csrSwap 0 csr v s = .next (charge (.exactly 1) (advance 4 (csrWrite c v s))) := by
  simp [csrSwap, h]

theorem csrSwap_known {rd : Reg} {csr : BitVec 12} {c : Csr} {v : Word} {s : State} (h : csrOf csr = some c)
    (hr : rd ≠ 0) : csrSwap rd csr v s = .next (charge (.exactly 1)
      (advance 4 (writeReg rd (csrValue c s) (csrWrite c v (afterCsrRead c s))))) := by
  simp [csrSwap, h, hr, compute_eq]

theorem csrModify_unknown {rd : Reg} {csr : BitVec 12} {w : Bool} {f : Word → Word} {s : State}
    (h : csrOf csr = none) : csrModify rd csr w f s = .refused (.unknownCsr csr) := by
  simp [csrModify, h]

theorem csrModify_known {rd : Reg} {csr : BitVec 12} {c : Csr} {w : Bool} {f : Word → Word} {s : State}
    (h : csrOf csr = some c) : csrModify rd csr w f s = .next (charge (.exactly 1) (advance 4 (writeReg rd (csrValue c s)
      (if w then csrWrite c (f (csrValue c s)) (afterCsrRead c s) else afterCsrRead c s)))) := by
  simp [csrModify, h, compute_eq]

/-! ## Fetching and stepping -/

theorem step_of_fetch {s : State} {i : Instr} (h : fetchInstr s = .got i) : step s = exec i s := by
  simp [step, h]

/-- Everything a step can do. -/
theorem step_next {s t : State} (h : step s = .next t) :
    (∃ e, fetchInstr s = .raises e ∧ t = takeTrap e s) ∨ (∃ i, fetchInstr s = .got i ∧ exec i s = .next t) := by
  unfold step at h
  split at h
  · next e he => cases h; exact .inl ⟨e, he, rfl⟩
  · cases h
  · cases h
  · next i hi => exact .inr ⟨i, hi, h⟩

/-- A fetched instruction was decoded from the bytes at the pc. -/
theorem fetchInstr_got {s : State} {i : Instr} (h : fetchInstr s = .got i) :
    ∃ bs rest, fetchBytes s = .got bs ∧ decode bs = .ok (i, rest) := by
  unfold fetchInstr at h
  split at h
  · cases h
  · cases h
  · cases h
  · next bs hb =>
    split at h
    · next i' rest hd => cases h; exact ⟨bs, rest, hb, hd⟩
    · cases h

/-- A fetch looks at the pc, the map, memory and the set of stored bytes only. -/
theorem fetchInstr_congr {s t : State} (h1 : t.pc = s.pc) (h2 : t.memMap = s.memMap) (h3 : t.mem = s.mem)
    (h4 : t.storedSinceFenceI = s.storedSinceFenceI) : fetchInstr t = fetchInstr s := by
  have hp : ∀ p a, fetchParcel p a t = fetchParcel p a s := fun p a => by
    simp only [fetchParcel, backed_congr h2, h3, h4]
  simp only [fetchInstr, fetchBytes, h1, hp]

end Sys2Proof.Machine
end

