-- ==== Sys2Proof/Laws/PerInstr.lean ====
section
/-! SUPPORT. Statements made for every instruction, one lemma per constructor. Family EncodedLength: the two low bits of
an encoding say whether it has 16 or 32 bits (R80, R81). -/

namespace Sys2Proof.Laws.EncodedLength

open Sys2Proof

/-- R81: a word has `0b11` in its bits 1:0, a parcel has not. -/
def Statement (i : Instr) : Prop :=
  match encodeParcels i with
  | .word w => isLong (w.extractLsb 15 0) = true
  | .half h => isLong h = false

theorem isLong_eq (h : Half) : isLong h = (h.getLsbD 0 && h.getLsbD 1) := by
  have key : ∀ b : BitVec 2, (b == 3#2) = (b.getLsbD 0 && b.getLsbD 1) := by decide
  rw [isLong, key (h.extractLsb 1 0), BitVec.extractLsb, BitVec.getLsbD_extractLsb', BitVec.getLsbD_extractLsb']
  simp

theorem isLong_low (w : Word) : isLong (w.extractLsb 15 0) = (w.getLsbD 0 && w.getLsbD 1) := by
  rw [isLong_eq, BitVec.extractLsb, BitVec.getLsbD_extractLsb', BitVec.getLsbD_extractLsb']
  simp

/-- The two low bits of a value. -/
def low {n : Nat} (v : BitVec n) : Bool × Bool := (v.getLsbD 0, v.getLsbD 1)

/-- A part whose two low bits are 0 leaves the two low bits of the rest. -/
theorem low_or {n : Nat} {v f : BitVec n} (hf : low f = (false, false)) : low (v ||| f) = low v := by
  have h0 : f.getLsbD 0 = false := congrArg Prod.fst hf
  have h1 : f.getLsbD 1 = false := congrArg Prod.snd hf
  simp [low, BitVec.getLsbD_or, h0, h1]

theorem zero_or {n : Nat} {f g : BitVec n} (hf : low f = (false, false)) (hg : low g = (false, false)) :
    low (f ||| g) = (false, false) := (low_or hg).trans hf

/-- A field placed at bit 2 or above has two low bits 0. -/
theorem zero_place {n k : Nat} (f : BitVec k) (lo : Nat) (hn : 2 ≤ n) (h : 2 ≤ lo) :
    low (place n f lo) = (false, false) := by
  have hb : ∀ i < 2, (place n f lo).getLsbD i = false := fun i hi => by
    rw [place_bit f lo i (by omega)]; simp [show ¬ lo ≤ i by omega]
  simp only [low, hb 0 (by omega), hb 1 (by omega)]

theorem isLong_word {w : Word} (h : low w = (true, true)) : isLong (w.extractLsb 15 0) = true := by
  rw [isLong_low, show w.getLsbD 0 = true from congrArg Prod.fst h, show w.getLsbD 1 = true from congrArg Prod.snd h]
  rfl

theorem isLong_half {h : Half} {b : Bool × Bool} (hl : low h = b) (hb : b ≠ (true, true)) : isLong h = false := by
  subst hl
  rw [isLong_eq]
  cases h0 : h.getLsbD 0 <;> cases h1 : h.getLsbD 1 <;> first | rfl | exact absurd (by simp [low, h0, h1]) hb

theorem zero32 {k : Nat} (f : BitVec k) {lo : Nat} (h : 2 ≤ lo) : low (place 32 f lo) = (false, false) :=
  zero_place f lo (by decide) h

theorem zero16 {k : Nat} (f : BitVec k) {lo : Nat} (h : 2 ≤ lo) : low (place 16 f lo) = (false, false) :=
  zero_place f lo (by decide) h

theorem zeroRd (r : Reg) : low (putRd r) = (false, false) := zero32 _ (by decide)
theorem zeroRs1 (r : Reg) : low (putRs1 r) = (false, false) := zero32 _ (by decide)
theorem zeroRs2 (r : Reg) : low (putRs2 r) = (false, false) := zero32 _ (by decide)
theorem zeroReg (r : Reg) : low (putReg r) = (false, false) := zero16 _ (by decide)
theorem zeroHalfRs2 (r : Reg) : low (putHalfRs2 r) = (false, false) := zero16 _ (by decide)
theorem zeroHigh (r : Reg) : low (putHigh r) = (false, false) := zero16 _ (by decide)
theorem zeroLow (r : Reg) : low (putLow r) = (false, false) := zero16 _ (by decide)

theorem zeroImm6 (imm : BitVec 6) : low (putImm6 imm) = (false, false) := by
  unfold putImm6
  exact zero_or (zero16 _ (by decide))
    (zero16 _ (by decide))

theorem zeroUimmWord (u : BitVec 7) : low (putUimmWord u) = (false, false) := by
  unfold putUimmWord
  exact zero_or (zero_or (zero16 _ (by decide))
    (zero16 _ (by decide)))
    (zero16 _ (by decide))

theorem zeroJump (o : BitVec 12) : low (putJump o) = (false, false) := by
  unfold putJump
  exact zero_or (zero_or (zero_or (zero_or (zero_or (zero_or (zero_or (zero16 _ (by decide))
    (zero16 _ (by decide)))
    (zero16 _ (by decide)))
    (zero16 _ (by decide)))
    (zero16 _ (by decide)))
    (zero16 _ (by decide)))
    (zero16 _ (by decide)))
    (zero16 _ (by decide))

theorem zeroBranch (o : BitVec 9) : low (putBranch o) = (false, false) := by
  unfold putBranch
  exact zero_or (zero_or (zero_or (zero_or (zero16 _ (by decide))
    (zero16 _ (by decide)))
    (zero16 _ (by decide)))
    (zero16 _ (by decide)))
    (zero16 _ (by decide))

theorem encR_ok (m : Word) (rd rs1 rs2 : Reg) (h : low m = (true, true)) :
    match encR m rd rs1 rs2 with
    | .word w => isLong (w.extractLsb 15 0) = true
    | .half x => isLong x = false :=
  isLong_word (((low_or (zeroRs2 _)).trans ((low_or (zeroRs1 _)).trans (low_or (zeroRd _)))).trans h)

theorem encUnary_ok (m : Word) (rd rs1 : Reg) (h : low m = (true, true)) :
    match encUnary m rd rs1 with
    | .word w => isLong (w.extractLsb 15 0) = true
    | .half x => isLong x = false :=
  isLong_word (((low_or (zeroRs1 _)).trans (low_or (zeroRd _))).trans h)

theorem encI_ok (m : Word) (rd rs1 : Reg) (imm : BitVec 12) (h : low m = (true, true)) :
    match encI m rd rs1 imm with
    | .word w => isLong (w.extractLsb 15 0) = true
    | .half x => isLong x = false :=
  isLong_word (((low_or (zero32 _ (by decide))).trans ((low_or (zeroRs1 _)).trans (low_or (zeroRd _)))).trans h)

theorem encShift_ok (m : Word) (rd rs1 : Reg) (shamt : BitVec 5) (h : low m = (true, true)) :
    match encShift m rd rs1 shamt with
    | .word w => isLong (w.extractLsb 15 0) = true
    | .half x => isLong x = false :=
  isLong_word (((low_or (zero32 _ (by decide))).trans ((low_or (zeroRs1 _)).trans (low_or (zeroRd _)))).trans h)

theorem encS_ok (m : Word) (rs2 : Reg) (imm : BitVec 12) (rs1 : Reg) (h : low m = (true, true)) :
    match encS m rs2 imm rs1 with
    | .word w => isLong (w.extractLsb 15 0) = true
    | .half x => isLong x = false :=
  isLong_word (((low_or (zero32 _ (by decide))).trans ((low_or (zero32 _ (by decide))).trans ((low_or (zeroRs2 _)).trans (low_or (zeroRs1 _))))).trans h)

theorem encB_ok (m : Word) (rs1 rs2 : Reg) (imm : BitVec 13) (h : low m = (true, true)) :
    match encB m rs1 rs2 imm with
    | .word w => isLong (w.extractLsb 15 0) = true
    | .half x => isLong x = false :=
  isLong_word (((low_or (zero32 _ (by decide))).trans ((low_or (zero32 _ (by decide))).trans ((low_or (zero32 _ (by decide))).trans ((low_or (zero32 _ (by decide))).trans ((low_or (zeroRs2 _)).trans (low_or (zeroRs1 _))))))).trans h)

theorem encU_ok (m : Word) (rd : Reg) (imm : BitVec 20) (h : low m = (true, true)) :
    match encU m rd imm with
    | .word w => isLong (w.extractLsb 15 0) = true
    | .half x => isLong x = false :=
  isLong_word (((low_or (zero32 _ (by decide))).trans (low_or (zeroRd _))).trans h)

theorem encJ_ok (m : Word) (rd : Reg) (imm : BitVec 21) (h : low m = (true, true)) :
    match encJ m rd imm with
    | .word w => isLong (w.extractLsb 15 0) = true
    | .half x => isLong x = false :=
  isLong_word (((low_or (zero32 _ (by decide))).trans ((low_or (zero32 _ (by decide))).trans ((low_or (zero32 _ (by decide))).trans ((low_or (zero32 _ (by decide))).trans (low_or (zeroRd _)))))).trans h)

theorem encCsrImm_ok (m : Word) (rd : Reg) (csr : BitVec 12) (uimm : BitVec 5) (h : low m = (true, true)) :
    match encCsrImm m rd csr uimm with
    | .word w => isLong (w.extractLsb 15 0) = true
    | .half x => isLong x = false :=
  isLong_word (((low_or (zero32 _ (by decide))).trans ((low_or (zero32 _ (by decide))).trans
    (low_or (zeroRd _)))).trans h)

theorem encAtomic_ok (m : Word) (rd rs2 rs1 : Reg) (aq rl : Bool) (h : low m = (true, true)) :
    match encAtomic m rd rs2 rs1 aq rl with
    | .word w => isLong (w.extractLsb 15 0) = true
    | .half x => isLong x = false :=
  isLong_word (((low_or (zero32 _ (by decide))).trans ((low_or (zero32 _ (by decide))).trans ((low_or (zeroRs2 _)).trans ((low_or (zeroRs1 _)).trans (low_or (zeroRd _)))))).trans h)

theorem add (rd : Reg) (rs1 : Reg) (rs2 : Reg) : Statement (.add rd rs1 rs2) :=
  encR_ok 0x00000033 _ _ _ rfl

theorem sub (rd : Reg) (rs1 : Reg) (rs2 : Reg) : Statement (.sub rd rs1 rs2) :=
  encR_ok 0x40000033 _ _ _ rfl

theorem slt (rd : Reg) (rs1 : Reg) (rs2 : Reg) : Statement (.slt rd rs1 rs2) :=
  encR_ok 0x00002033 _ _ _ rfl

theorem sltu (rd : Reg) (rs1 : Reg) (rs2 : Reg) : Statement (.sltu rd rs1 rs2) :=
  encR_ok 0x00003033 _ _ _ rfl

theorem and (rd : Reg) (rs1 : Reg) (rs2 : Reg) : Statement (.and rd rs1 rs2) :=
  encR_ok 0x00007033 _ _ _ rfl

theorem or (rd : Reg) (rs1 : Reg) (rs2 : Reg) : Statement (.or rd rs1 rs2) :=
  encR_ok 0x00006033 _ _ _ rfl

theorem xor (rd : Reg) (rs1 : Reg) (rs2 : Reg) : Statement (.xor rd rs1 rs2) :=
  encR_ok 0x00004033 _ _ _ rfl

theorem sll (rd : Reg) (rs1 : Reg) (rs2 : Reg) : Statement (.sll rd rs1 rs2) :=
  encR_ok 0x00001033 _ _ _ rfl

theorem srl (rd : Reg) (rs1 : Reg) (rs2 : Reg) : Statement (.srl rd rs1 rs2) :=
  encR_ok 0x00005033 _ _ _ rfl

theorem sra (rd : Reg) (rs1 : Reg) (rs2 : Reg) : Statement (.sra rd rs1 rs2) :=
  encR_ok 0x40005033 _ _ _ rfl

theorem addi (rd : Reg) (rs1 : Reg) (imm : BitVec 12) : Statement (.addi rd rs1 imm) :=
  encI_ok 0x00000013 _ _ _ rfl

theorem slti (rd : Reg) (rs1 : Reg) (imm : BitVec 12) : Statement (.slti rd rs1 imm) :=
  encI_ok 0x00002013 _ _ _ rfl

theorem sltiu (rd : Reg) (rs1 : Reg) (imm : BitVec 12) : Statement (.sltiu rd rs1 imm) :=
  encI_ok 0x00003013 _ _ _ rfl

theorem andi (rd : Reg) (rs1 : Reg) (imm : BitVec 12) : Statement (.andi rd rs1 imm) :=
  encI_ok 0x00007013 _ _ _ rfl

theorem ori (rd : Reg) (rs1 : Reg) (imm : BitVec 12) : Statement (.ori rd rs1 imm) :=
  encI_ok 0x00006013 _ _ _ rfl

theorem xori (rd : Reg) (rs1 : Reg) (imm : BitVec 12) : Statement (.xori rd rs1 imm) :=
  encI_ok 0x00004013 _ _ _ rfl

theorem slli (rd : Reg) (rs1 : Reg) (shamt : BitVec 5) : Statement (.slli rd rs1 shamt) :=
  encShift_ok 0x00001013 _ _ _ rfl

theorem srli (rd : Reg) (rs1 : Reg) (shamt : BitVec 5) : Statement (.srli rd rs1 shamt) :=
  encShift_ok 0x00005013 _ _ _ rfl

theorem srai (rd : Reg) (rs1 : Reg) (shamt : BitVec 5) : Statement (.srai rd rs1 shamt) :=
  encShift_ok 0x40005013 _ _ _ rfl

theorem lui (rd : Reg) (imm : BitVec 20) : Statement (.lui rd imm) :=
  encU_ok 0x00000037 _ _ rfl

theorem auipc (rd : Reg) (imm : BitVec 20) : Statement (.auipc rd imm) :=
  encU_ok 0x00000017 _ _ rfl

theorem jal (rd : Reg) (offset : BitVec 21) : Statement (.jal rd offset) :=
  encJ_ok 0x0000006F _ _ rfl

theorem jalr (rd : Reg) (rs1 : Reg) (imm : BitVec 12) : Statement (.jalr rd rs1 imm) :=
  encI_ok 0x00000067 _ _ _ rfl

theorem beq (rs1 : Reg) (rs2 : Reg) (offset : BitVec 13) : Statement (.beq rs1 rs2 offset) :=
  encB_ok 0x00000063 _ _ _ rfl

theorem bne (rs1 : Reg) (rs2 : Reg) (offset : BitVec 13) : Statement (.bne rs1 rs2 offset) :=
  encB_ok 0x00001063 _ _ _ rfl

theorem blt (rs1 : Reg) (rs2 : Reg) (offset : BitVec 13) : Statement (.blt rs1 rs2 offset) :=
  encB_ok 0x00004063 _ _ _ rfl

theorem bge (rs1 : Reg) (rs2 : Reg) (offset : BitVec 13) : Statement (.bge rs1 rs2 offset) :=
  encB_ok 0x00005063 _ _ _ rfl

theorem bltu (rs1 : Reg) (rs2 : Reg) (offset : BitVec 13) : Statement (.bltu rs1 rs2 offset) :=
  encB_ok 0x00006063 _ _ _ rfl

theorem bgeu (rs1 : Reg) (rs2 : Reg) (offset : BitVec 13) : Statement (.bgeu rs1 rs2 offset) :=
  encB_ok 0x00007063 _ _ _ rfl

theorem lw (rd : Reg) (imm : BitVec 12) (rs1 : Reg) : Statement (.lw rd imm rs1) :=
  encI_ok 0x00002003 _ _ _ rfl

theorem lh (rd : Reg) (imm : BitVec 12) (rs1 : Reg) : Statement (.lh rd imm rs1) :=
  encI_ok 0x00001003 _ _ _ rfl

theorem lhu (rd : Reg) (imm : BitVec 12) (rs1 : Reg) : Statement (.lhu rd imm rs1) :=
  encI_ok 0x00005003 _ _ _ rfl

theorem lb (rd : Reg) (imm : BitVec 12) (rs1 : Reg) : Statement (.lb rd imm rs1) :=
  encI_ok 0x00000003 _ _ _ rfl

theorem lbu (rd : Reg) (imm : BitVec 12) (rs1 : Reg) : Statement (.lbu rd imm rs1) :=
  encI_ok 0x00004003 _ _ _ rfl

theorem sw (rs2 : Reg) (imm : BitVec 12) (rs1 : Reg) : Statement (.sw rs2 imm rs1) :=
  encS_ok 0x00002023 _ _ _ rfl

theorem sh (rs2 : Reg) (imm : BitVec 12) (rs1 : Reg) : Statement (.sh rs2 imm rs1) :=
  encS_ok 0x00001023 _ _ _ rfl

theorem sb (rs2 : Reg) (imm : BitVec 12) (rs1 : Reg) : Statement (.sb rs2 imm rs1) :=
  encS_ok 0x00000023 _ _ _ rfl

theorem mul (rd : Reg) (rs1 : Reg) (rs2 : Reg) : Statement (.mul rd rs1 rs2) :=
  encR_ok 0x02000033 _ _ _ rfl

theorem mulh (rd : Reg) (rs1 : Reg) (rs2 : Reg) : Statement (.mulh rd rs1 rs2) :=
  encR_ok 0x02001033 _ _ _ rfl

theorem mulhsu (rd : Reg) (rs1 : Reg) (rs2 : Reg) : Statement (.mulhsu rd rs1 rs2) :=
  encR_ok 0x02002033 _ _ _ rfl

theorem mulhu (rd : Reg) (rs1 : Reg) (rs2 : Reg) : Statement (.mulhu rd rs1 rs2) :=
  encR_ok 0x02003033 _ _ _ rfl

theorem div (rd : Reg) (rs1 : Reg) (rs2 : Reg) : Statement (.div rd rs1 rs2) :=
  encR_ok 0x02004033 _ _ _ rfl

theorem divu (rd : Reg) (rs1 : Reg) (rs2 : Reg) : Statement (.divu rd rs1 rs2) :=
  encR_ok 0x02005033 _ _ _ rfl

theorem rem (rd : Reg) (rs1 : Reg) (rs2 : Reg) : Statement (.rem rd rs1 rs2) :=
  encR_ok 0x02006033 _ _ _ rfl

theorem remu (rd : Reg) (rs1 : Reg) (rs2 : Reg) : Statement (.remu rd rs1 rs2) :=
  encR_ok 0x02007033 _ _ _ rfl

theorem lrW (rd : Reg) (rs1 : Reg) (aq : Bool) (rl : Bool) : Statement (.lrW rd rs1 aq rl) :=
  encAtomic_ok 0x1000202F _ _ _ _ _ rfl

theorem scW (rd : Reg) (rs2 : Reg) (rs1 : Reg) (aq : Bool) (rl : Bool) : Statement (.scW rd rs2 rs1 aq rl) :=
  encAtomic_ok 0x1800202F _ _ _ _ _ rfl

theorem amoswapW (rd : Reg) (rs2 : Reg) (rs1 : Reg) (aq : Bool) (rl : Bool) : Statement (.amoswapW rd rs2 rs1 aq rl) :=
  encAtomic_ok 0x0800202F _ _ _ _ _ rfl

theorem amoaddW (rd : Reg) (rs2 : Reg) (rs1 : Reg) (aq : Bool) (rl : Bool) : Statement (.amoaddW rd rs2 rs1 aq rl) :=
  encAtomic_ok 0x0000202F _ _ _ _ _ rfl

theorem amoxorW (rd : Reg) (rs2 : Reg) (rs1 : Reg) (aq : Bool) (rl : Bool) : Statement (.amoxorW rd rs2 rs1 aq rl) :=
  encAtomic_ok 0x2000202F _ _ _ _ _ rfl

theorem amoandW (rd : Reg) (rs2 : Reg) (rs1 : Reg) (aq : Bool) (rl : Bool) : Statement (.amoandW rd rs2 rs1 aq rl) :=
  encAtomic_ok 0x6000202F _ _ _ _ _ rfl

theorem amoorW (rd : Reg) (rs2 : Reg) (rs1 : Reg) (aq : Bool) (rl : Bool) : Statement (.amoorW rd rs2 rs1 aq rl) :=
  encAtomic_ok 0x4000202F _ _ _ _ _ rfl

theorem amominW (rd : Reg) (rs2 : Reg) (rs1 : Reg) (aq : Bool) (rl : Bool) : Statement (.amominW rd rs2 rs1 aq rl) :=
  encAtomic_ok 0x8000202F _ _ _ _ _ rfl

theorem amomaxW (rd : Reg) (rs2 : Reg) (rs1 : Reg) (aq : Bool) (rl : Bool) : Statement (.amomaxW rd rs2 rs1 aq rl) :=
  encAtomic_ok 0xA000202F _ _ _ _ _ rfl

theorem amominuW (rd : Reg) (rs2 : Reg) (rs1 : Reg) (aq : Bool) (rl : Bool) : Statement (.amominuW rd rs2 rs1 aq rl) :=
  encAtomic_ok 0xC000202F _ _ _ _ _ rfl

theorem amomaxuW (rd : Reg) (rs2 : Reg) (rs1 : Reg) (aq : Bool) (rl : Bool) : Statement (.amomaxuW rd rs2 rs1 aq rl) :=
  encAtomic_ok 0xE000202F _ _ _ _ _ rfl

theorem csrrw (rd : Reg) (csr : BitVec 12) (rs1 : Reg) : Statement (.csrrw rd csr rs1) :=
  encI_ok 0x00001073 _ _ _ rfl

theorem csrrc (rd : Reg) (csr : BitVec 12) (rs1 : Reg) : Statement (.csrrc rd csr rs1) :=
  encI_ok 0x00003073 _ _ _ rfl

theorem csrrs (rd : Reg) (csr : BitVec 12) (rs1 : Reg) : Statement (.csrrs rd csr rs1) :=
  encI_ok 0x00002073 _ _ _ rfl

theorem csrrwi (rd : Reg) (csr : BitVec 12) (uimm : BitVec 5) : Statement (.csrrwi rd csr uimm) :=
  encCsrImm_ok 0x00005073 _ _ _ rfl

theorem csrrci (rd : Reg) (csr : BitVec 12) (uimm : BitVec 5) : Statement (.csrrci rd csr uimm) :=
  encCsrImm_ok 0x00007073 _ _ _ rfl

theorem csrrsi (rd : Reg) (csr : BitVec 12) (uimm : BitVec 5) : Statement (.csrrsi rd csr uimm) :=
  encCsrImm_ok 0x00006073 _ _ _ rfl

theorem ecall : Statement (.ecall) :=
  isLong_word rfl

theorem ebreak : Statement (.ebreak) :=
  isLong_word rfl

theorem sh1add (rd : Reg) (rs1 : Reg) (rs2 : Reg) : Statement (.sh1add rd rs1 rs2) :=
  encR_ok 0x20002033 _ _ _ rfl

theorem sh2add (rd : Reg) (rs1 : Reg) (rs2 : Reg) : Statement (.sh2add rd rs1 rs2) :=
  encR_ok 0x20004033 _ _ _ rfl

theorem sh3add (rd : Reg) (rs1 : Reg) (rs2 : Reg) : Statement (.sh3add rd rs1 rs2) :=
  encR_ok 0x20006033 _ _ _ rfl

theorem andn (rd : Reg) (rs1 : Reg) (rs2 : Reg) : Statement (.andn rd rs1 rs2) :=
  encR_ok 0x40007033 _ _ _ rfl

theorem clz (rd : Reg) (rs1 : Reg) : Statement (.clz rd rs1) :=
  encUnary_ok 0x60001013 _ _ rfl

theorem cpop (rd : Reg) (rs1 : Reg) : Statement (.cpop rd rs1) :=
  encUnary_ok 0x60201013 _ _ rfl

theorem ctz (rd : Reg) (rs1 : Reg) : Statement (.ctz rd rs1) :=
  encUnary_ok 0x60101013 _ _ rfl

theorem max (rd : Reg) (rs1 : Reg) (rs2 : Reg) : Statement (.max rd rs1 rs2) :=
  encR_ok 0x0A006033 _ _ _ rfl

theorem maxu (rd : Reg) (rs1 : Reg) (rs2 : Reg) : Statement (.maxu rd rs1 rs2) :=
  encR_ok 0x0A007033 _ _ _ rfl

theorem min (rd : Reg) (rs1 : Reg) (rs2 : Reg) : Statement (.min rd rs1 rs2) :=
  encR_ok 0x0A004033 _ _ _ rfl

theorem minu (rd : Reg) (rs1 : Reg) (rs2 : Reg) : Statement (.minu rd rs1 rs2) :=
  encR_ok 0x0A005033 _ _ _ rfl

theorem orcB (rd : Reg) (rs1 : Reg) : Statement (.orcB rd rs1) :=
  encUnary_ok 0x28705013 _ _ rfl

theorem orn (rd : Reg) (rs1 : Reg) (rs2 : Reg) : Statement (.orn rd rs1 rs2) :=
  encR_ok 0x40006033 _ _ _ rfl

theorem rev8 (rd : Reg) (rs1 : Reg) : Statement (.rev8 rd rs1) :=
  encUnary_ok 0x69805013 _ _ rfl

theorem rol (rd : Reg) (rs1 : Reg) (rs2 : Reg) : Statement (.rol rd rs1 rs2) :=
  encR_ok 0x60001033 _ _ _ rfl

theorem ror (rd : Reg) (rs1 : Reg) (rs2 : Reg) : Statement (.ror rd rs1 rs2) :=
  encR_ok 0x60005033 _ _ _ rfl

theorem rori (rd : Reg) (rs1 : Reg) (shamt : BitVec 5) : Statement (.rori rd rs1 shamt) :=
  encShift_ok 0x60005013 _ _ _ rfl

theorem sextB (rd : Reg) (rs1 : Reg) : Statement (.sextB rd rs1) :=
  encUnary_ok 0x60401013 _ _ rfl

theorem sextH (rd : Reg) (rs1 : Reg) : Statement (.sextH rd rs1) :=
  encUnary_ok 0x60501013 _ _ rfl

theorem xnor (rd : Reg) (rs1 : Reg) (rs2 : Reg) : Statement (.xnor rd rs1 rs2) :=
  encR_ok 0x40004033 _ _ _ rfl

theorem zextH (rd : Reg) (rs1 : Reg) : Statement (.zextH rd rs1) :=
  encUnary_ok 0x08004033 _ _ rfl

theorem clmul (rd : Reg) (rs1 : Reg) (rs2 : Reg) : Statement (.clmul rd rs1 rs2) :=
  encR_ok 0x0A001033 _ _ _ rfl

theorem clmulh (rd : Reg) (rs1 : Reg) (rs2 : Reg) : Statement (.clmulh rd rs1 rs2) :=
  encR_ok 0x0A003033 _ _ _ rfl

theorem clmulr (rd : Reg) (rs1 : Reg) (rs2 : Reg) : Statement (.clmulr rd rs1 rs2) :=
  encR_ok 0x0A002033 _ _ _ rfl

theorem bclr (rd : Reg) (rs1 : Reg) (rs2 : Reg) : Statement (.bclr rd rs1 rs2) :=
  encR_ok 0x48001033 _ _ _ rfl

theorem bclri (rd : Reg) (rs1 : Reg) (shamt : BitVec 5) : Statement (.bclri rd rs1 shamt) :=
  encShift_ok 0x48001013 _ _ _ rfl

theorem bext (rd : Reg) (rs1 : Reg) (rs2 : Reg) : Statement (.bext rd rs1 rs2) :=
  encR_ok 0x48005033 _ _ _ rfl

theorem bexti (rd : Reg) (rs1 : Reg) (shamt : BitVec 5) : Statement (.bexti rd rs1 shamt) :=
  encShift_ok 0x48005013 _ _ _ rfl

theorem binv (rd : Reg) (rs1 : Reg) (rs2 : Reg) : Statement (.binv rd rs1 rs2) :=
  encR_ok 0x68001033 _ _ _ rfl

theorem binvi (rd : Reg) (rs1 : Reg) (shamt : BitVec 5) : Statement (.binvi rd rs1 shamt) :=
  encShift_ok 0x68001013 _ _ _ rfl

theorem bset (rd : Reg) (rs1 : Reg) (rs2 : Reg) : Statement (.bset rd rs1 rs2) :=
  encR_ok 0x28001033 _ _ _ rfl

theorem bseti (rd : Reg) (rs1 : Reg) (shamt : BitVec 5) : Statement (.bseti rd rs1 shamt) :=
  encShift_ok 0x28001013 _ _ _ rfl

theorem fence (fm : BitVec 4) (pred : BitVec 4) (succ : BitVec 4) (rs1 : Reg) (rd : Reg) : Statement (.fence fm pred succ rs1 rd) :=
  isLong_word (((low_or (zero32 _ (by decide))).trans ((low_or (zero32 _ (by decide))).trans ((low_or (zero32 _ (by decide))).trans ((low_or (zeroRs1 _)).trans (low_or (zeroRd _)))))).trans rfl)

theorem fenceI (imm : BitVec 12) (rs1 : Reg) (rd : Reg) : Statement (.fenceI imm rs1 rd) :=
  encI_ok 0x0000100F _ _ _ rfl

theorem mret : Statement (.mret) :=
  isLong_word rfl

theorem wfi : Statement (.wfi) :=
  isLong_word rfl

theorem cAddi4spn (rd' : Reg) (nzuimm : BitVec 10) : Statement (.cAddi4spn rd' nzuimm) :=
  isLong_half (b := (false, false)) (((low_or (zero16 _ (by decide))).trans ((low_or (zero16 _ (by decide))).trans ((low_or (zero16 _ (by decide))).trans ((low_or (zero16 _ (by decide))).trans (low_or (zeroLow _)))))).trans rfl) (by decide)

theorem cLw (rd' : Reg) (uimm : BitVec 7) (rs1' : Reg) : Statement (.cLw rd' uimm rs1') :=
  isLong_half (b := (false, false)) (((low_or (zeroUimmWord _)).trans ((low_or (zeroHigh _)).trans
    (low_or (zeroLow _)))).trans rfl) (by decide)

theorem cSw (rs2' : Reg) (uimm : BitVec 7) (rs1' : Reg) : Statement (.cSw rs2' uimm rs1') :=
  isLong_half (b := (false, false)) (((low_or (zeroUimmWord _)).trans ((low_or (zeroHigh _)).trans
    (low_or (zeroLow _)))).trans rfl) (by decide)

theorem cNop (imm : BitVec 6) : Statement (.cNop imm) :=
  isLong_half (b := (true, false)) ((low_or (zeroImm6 _)).trans rfl) (by decide)

theorem cAddi (rd : Reg) (imm : BitVec 6) : Statement (.cAddi rd imm) :=
  isLong_half (b := (true, false)) (((low_or (zeroImm6 _)).trans (low_or (zeroReg _))).trans rfl) (by decide)

theorem cJal (offset : BitVec 12) : Statement (.cJal offset) :=
  isLong_half (b := (true, false)) ((low_or (zeroJump _)).trans rfl) (by decide)

theorem cLi (rd : Reg) (imm : BitVec 6) : Statement (.cLi rd imm) :=
  isLong_half (b := (true, false)) (((low_or (zeroImm6 _)).trans (low_or (zeroReg _))).trans rfl) (by decide)

theorem cAddi16sp (nzimm : BitVec 10) : Statement (.cAddi16sp nzimm) :=
  isLong_half (b := (true, false)) (((low_or (zero16 _ (by decide))).trans ((low_or (zero16 _ (by decide))).trans ((low_or (zero16 _ (by decide))).trans ((low_or (zero16 _ (by decide))).trans (low_or (zero16 _ (by decide))))))).trans rfl) (by decide)

theorem cLui (rd : Reg) (nzimm : BitVec 6) : Statement (.cLui rd nzimm) :=
  isLong_half (b := (true, false)) (((low_or (zeroImm6 _)).trans (low_or (zeroReg _))).trans rfl) (by decide)

theorem cSrli (rd' : Reg) (shamt : BitVec 5) : Statement (.cSrli rd' shamt) :=
  isLong_half (b := (true, false)) (((low_or (zero16 _ (by decide))).trans
    (low_or (zeroHigh _))).trans rfl) (by decide)

theorem cSrai (rd' : Reg) (shamt : BitVec 5) : Statement (.cSrai rd' shamt) :=
  isLong_half (b := (true, false)) (((low_or (zero16 _ (by decide))).trans
    (low_or (zeroHigh _))).trans rfl) (by decide)

theorem cAndi (rd' : Reg) (imm : BitVec 6) : Statement (.cAndi rd' imm) :=
  isLong_half (b := (true, false)) (((low_or (zeroImm6 _)).trans (low_or (zeroHigh _))).trans rfl) (by decide)

theorem cSub (rd' : Reg) (rs2' : Reg) : Statement (.cSub rd' rs2') :=
  isLong_half (b := (true, false)) (((low_or (zeroLow _)).trans (low_or (zeroHigh _))).trans rfl) (by decide)

theorem cXor (rd' : Reg) (rs2' : Reg) : Statement (.cXor rd' rs2') :=
  isLong_half (b := (true, false)) (((low_or (zeroLow _)).trans (low_or (zeroHigh _))).trans rfl) (by decide)

theorem cOr (rd' : Reg) (rs2' : Reg) : Statement (.cOr rd' rs2') :=
  isLong_half (b := (true, false)) (((low_or (zeroLow _)).trans (low_or (zeroHigh _))).trans rfl) (by decide)

theorem cAnd (rd' : Reg) (rs2' : Reg) : Statement (.cAnd rd' rs2') :=
  isLong_half (b := (true, false)) (((low_or (zeroLow _)).trans (low_or (zeroHigh _))).trans rfl) (by decide)

theorem cJ (offset : BitVec 12) : Statement (.cJ offset) :=
  isLong_half (b := (true, false)) ((low_or (zeroJump _)).trans rfl) (by decide)

theorem cBeqz (rs1' : Reg) (offset : BitVec 9) : Statement (.cBeqz rs1' offset) :=
  isLong_half (b := (true, false)) (((low_or (zeroBranch _)).trans (low_or (zeroHigh _))).trans rfl) (by decide)

theorem cBnez (rs1' : Reg) (offset : BitVec 9) : Statement (.cBnez rs1' offset) :=
  isLong_half (b := (true, false)) (((low_or (zeroBranch _)).trans (low_or (zeroHigh _))).trans rfl) (by decide)

theorem cSlli (rd : Reg) (shamt : BitVec 5) : Statement (.cSlli rd shamt) :=
  isLong_half (b := (false, true)) (((low_or (zero16 _ (by decide))).trans
    (low_or (zeroReg _))).trans rfl) (by decide)

theorem cLwsp (rd : Reg) (uimm : BitVec 8) : Statement (.cLwsp rd uimm) :=
  isLong_half (b := (false, true)) (((low_or (zero16 _ (by decide))).trans ((low_or (zero16 _ (by decide))).trans ((low_or (zero16 _ (by decide))).trans (low_or (zeroReg _))))).trans rfl) (by decide)

theorem cJr (rs1 : Reg) : Statement (.cJr rs1) :=
  isLong_half (b := (false, true)) ((low_or (zeroReg _)).trans rfl) (by decide)

theorem cMv (rd : Reg) (rs2 : Reg) : Statement (.cMv rd rs2) :=
  isLong_half (b := (false, true)) (((low_or (zeroHalfRs2 _)).trans (low_or (zeroReg _))).trans rfl) (by decide)

theorem cEbreak : Statement (.cEbreak) :=
  isLong_half (b := (false, true)) rfl (by decide)

theorem cJalr (rs1 : Reg) : Statement (.cJalr rs1) :=
  isLong_half (b := (false, true)) ((low_or (zeroReg _)).trans rfl) (by decide)

theorem cAdd (rd : Reg) (rs2 : Reg) : Statement (.cAdd rd rs2) :=
  isLong_half (b := (false, true)) (((low_or (zeroHalfRs2 _)).trans (low_or (zeroReg _))).trans rfl) (by decide)

theorem cSwsp (rs2 : Reg) (uimm : BitVec 8) : Statement (.cSwsp rs2 uimm) :=
  isLong_half (b := (false, true)) (((low_or (zero16 _ (by decide))).trans ((low_or (zero16 _ (by decide))).trans (low_or (zeroHalfRs2 _)))).trans rfl) (by decide)

end Sys2Proof.Laws.EncodedLength
end

