-- ==== Sys2Proof/Tests/Slice0.lean ====
section
/-! SUPPORT. Tests, each with its expected result from the spec: which terms are ill formed, which words stand for which
instructions (the Examples of files 40 to 49), one step on a small machine (the vectors of 95_test_vectors.md), and
for each obligation with hypotheses a witness that meets them. -/

namespace Sys2Proof.Tests

open Sys2Proof Sys2Proof.Machine

/-! ## WellFormed refuses one ill-formed term for each check -/

/-- Odd offsets (R86, R88). -/
theorem test_illformed_offsets :
    (Instr.jal 1 1).wellFormed = false ∧ (Instr.beq 1 2 1).wellFormed = false ∧ (Instr.bne 1 2 3).wellFormed = false ∧
    (Instr.blt 1 2 5).wellFormed = false ∧ (Instr.bge 1 2 7).wellFormed = false ∧
    (Instr.bltu 1 2 9).wellFormed = false ∧ (Instr.bgeu 1 2 0x1FFF).wellFormed = false ∧
    (Instr.cJal 1).wellFormed = false ∧ (Instr.cJ 3).wellFormed = false ∧ (Instr.cBeqz 8 1).wellFormed = false ∧
    (Instr.cBnez 8 3).wellFormed = false := by decide

/-- Registers a three-bit field cannot name (R241). -/
theorem test_illformed_prime_registers :
    (Instr.cAddi4spn 7 4).wellFormed = false ∧ (Instr.cLw 16 0 8).wellFormed = false ∧
    (Instr.cLw 8 0 7).wellFormed = false ∧ (Instr.cSw 7 0 8).wellFormed = false ∧
    (Instr.cSw 8 0 16).wellFormed = false ∧ (Instr.cSrli 7 1).wellFormed = false ∧
    (Instr.cSrai 16 1).wellFormed = false ∧ (Instr.cAndi 0 1).wellFormed = false ∧
    (Instr.cSub 7 8).wellFormed = false ∧ (Instr.cXor 8 7).wellFormed = false ∧ (Instr.cOr 16 8).wellFormed = false ∧
    (Instr.cAnd 8 16).wellFormed = false ∧ (Instr.cBeqz 7 2).wellFormed = false ∧
    (Instr.cBnez 16 2).wellFormed = false := by decide

/-- Immediates and displacements out of form (R243 to R245, R250, R251, R263, R269). -/
theorem test_illformed_immediates :
    (Instr.cAddi4spn 8 0).wellFormed = false ∧ (Instr.cAddi4spn 8 2).wellFormed = false ∧
    (Instr.cLw 8 2 8).wellFormed = false ∧ (Instr.cSw 8 1 8).wellFormed = false ∧
    (Instr.cAddi16sp 0).wellFormed = false ∧ (Instr.cAddi16sp 8).wellFormed = false ∧
    (Instr.cLui 1 0).wellFormed = false ∧ (Instr.cLwsp 1 2).wellFormed = false ∧
    (Instr.cSwsp 1 2).wellFormed = false := by decide

/-- Register numbers another row has, or none (R247, R251, R263 to R268). -/
theorem test_illformed_register_numbers :
    (Instr.cAddi 0 1).wellFormed = false ∧ (Instr.cLui 2 1).wellFormed = false ∧
    (Instr.cLwsp 0 4).wellFormed = false ∧ (Instr.cJr 0).wellFormed = false ∧ (Instr.cJalr 0).wellFormed = false ∧
    (Instr.cMv 1 0).wellFormed = false ∧ (Instr.cAdd 1 0).wellFormed = false := by decide

/-- The same operands in form are accepted. -/
theorem test_wellformed_edges :
    (Instr.jal 1 0x100000).wellFormed = true ∧ (Instr.bgeu 1 2 0x1000).wellFormed = true ∧
    (Instr.cAddi4spn 15 1020).wellFormed = true ∧ (Instr.cLw 8 124 15).wellFormed = true ∧
    (Instr.cAddi16sp 0x200).wellFormed = true ∧ (Instr.cLui 0 1).wellFormed = true ∧
    (Instr.cLwsp 31 252).wellFormed = true ∧ (Instr.cMv 0 31).wellFormed = true := by decide

/-! ## Decoding -/

/-- The decoder reads the instruction from the word, and the encoder writes the word for it. -/
def codes (bits w : Nat) (i : Instr) : Bool :=
  decodeTableWord bits w == some i && i.wellFormed && encode i == (tableBytes bits w).take (bits / 8)

/-- The example words of 40_rv32i_integer.md. -/
theorem test_decode_integer :
    ([(0x002081B3, .add 3 1 2), (0x402081B3, .sub 3 1 2), (0x0020A1B3, .slt 3 1 2), (0x0020B1B3, .sltu 3 1
      2), (0x0020F1B3, .and 3 1 2), (0x0020E1B3, .or 3 1 2), (0x0020C1B3, .xor 3 1 2), (0x002091B3, .sll 3 1
      2), (0x0020D1B3, .srl 3 1 2), (0x4020D1B3, .sra 3 1 2), (0xFFF00093, .addi 1 0 0xFFF#12), (0x0000A113,
      .slti 2 1 0x0#12)] :
      List (Nat × Instr)).all (fun r => codes 32 r.1 r.2) = true ∧
    ([(0xFFF0B113, .sltiu 2 1 0xFFF#12), (0x0FF0F113, .andi 2 1 0xFF#12), (0x7000E113, .ori 2 1 0x700#12),
      (0xFFF0C113, .xori 2 1 0xFFF#12), (0x01F09113, .slli 2 1 0x1F#5), (0x01F0D113, .srli 2 1 0x1F#5),
      (0x41F0D113, .srai 2 1 0x1F#5), (0x123452B7, .lui 5 0x12345#20), (0x00001297, .auipc 5 0x1#20)] :
      List (Nat × Instr)).all (fun r => codes 32 r.1 r.2) = true := by decide

/-- The example words of 41_rv32i_control_transfer.md. -/
theorem test_decode_control :
    ([(0x008000EF, .jal 1 0x8#21), (0xFFDFF06F, .jal 0 0x1FFFFC#21), (0x003100E7, .jalr 1 2 0x3#12),
      (0x00208863, .beq 1 2 0x10#13), (0xFE209CE3, .bne 1 2 0x1FF8#13), (0x0020C863, .blt 1 2 0x10#13),
      (0x0020D863, .bge 1 2 0x10#13), (0x0020E863, .bltu 1 2 0x10#13), (0x0020F863, .bgeu 1 2 0x10#13)] :
      List (Nat × Instr)).all (fun r => codes 32 r.1 r.2) = true := by decide

/-- The example words of 42_rv32i_load_store.md. -/
theorem test_decode_memory :
    ([(0x00812283, .lw 5 0x8#12 2), (0xFFE11283, .lh 5 0xFFE#12 2), (0x00215283, .lhu 5 0x2#12 2),
      (0x00310283, .lb 5 0x3#12 2), (0x00314283, .lbu 5 0x3#12 2), (0x00512623, .sw 5 0xC#12 2),
      (0xFE511F23, .sh 5 0xFFE#12 2), (0x005100A3, .sb 5 0x1#12 2)] :
      List (Nat × Instr)).all (fun r => codes 32 r.1 r.2) = true := by decide

/-- The example words of 43_m_extension.md. -/
theorem test_decode_multiply :
    ([(0x022081B3, .mul 3 1 2), (0x022091B3, .mulh 3 1 2), (0x0220A1B3, .mulhsu 3 1 2), (0x0220B1B3, .mulhu
      3 1 2), (0x0220C1B3, .div 3 1 2), (0x0220D1B3, .divu 3 1 2), (0x0220E1B3, .rem 3 1 2), (0x0220F1B3,
      .remu 3 1 2)] :
      List (Nat × Instr)).all (fun r => codes 32 r.1 r.2) = true := by decide

/-- The example words of 44_a_extension.md. -/
theorem test_decode_atomic :
    ([(0x100522AF, .lrW 5 10 false false), (0x1855232F, .scW 6 5 10 false false), (0x086522AF, .amoswapW 5 6
      10 false false), (0x006522AF, .amoaddW 5 6 10 false false), (0x206522AF, .amoxorW 5 6 10 false false),
      (0x606522AF, .amoandW 5 6 10 false false), (0x406522AF, .amoorW 5 6 10 false false), (0x806522AF,
      .amominW 5 6 10 false false), (0xA06522AF, .amomaxW 5 6 10 false false), (0xC06522AF, .amominuW 5 6 10
      false false), (0xE06522AF, .amomaxuW 5 6 10 false false)] :
      List (Nat × Instr)).all (fun r => codes 32 r.1 r.2) = true := by decide

/-- The example words of 45_c_extension.md. -/
theorem test_decode_compressed :
    ([(0x0800, .cAddi4spn 8 0x10#10), (0x4044, .cLw 9 0x4#7 8), (0xC404, .cSw 9 0x8#7 8), (0x0001, .cNop 0),
      (0x12FD, .cAddi 5 0x3F#6), (0x2801, .cJal 0x10#12), (0x4515, .cLi 10 0x5#6), (0x5501, .cLi 10 0x20#6),
      (0x713D, .cAddi16sp 0x3E0#10), (0x617D, .cAddi16sp 0x1F0#10), (0x6285, .cLui 5 0x1#6), (0x72FD, .cLui
      5 0x3F#6)] :
      List (Nat × Instr)).all (fun r => codes 16 r.1 r.2) = true ∧
    ([(0x8011, .cSrli 8 0x4#5), (0x8411, .cSrai 8 0x4#5), (0x9841, .cAndi 8 0x30#6), (0x8C05, .cSub 8 9),
      (0x8C25, .cXor 8 9), (0x8C45, .cOr 8 9), (0x8C65, .cAnd 8 9), (0xBFF5, .cJ 0xFFC#12), (0xC401, .cBeqz
      8 0x8#9), (0xFC6D, .cBnez 8 0x1FA#9), (0x028E, .cSlli 5 0x3#5), (0x42B2, .cLwsp 5 0xC#8)] :
      List (Nat × Instr)).all (fun r => codes 16 r.1 r.2) = true ∧
    ([(0x8082, .cJr 1), (0x852E, .cMv 10 11), (0x9002, .cEbreak), (0x9282, .cJalr 5), (0x952E, .cAdd 10 11),
      (0xC616, .cSwsp 5 0xC#8)] :
      List (Nat × Instr)).all (fun r => codes 16 r.1 r.2) = true := by decide

/-- The example words of 46_zicsr_privileged.md. -/
theorem test_decode_csr :
    ([(0x305312F3, .csrrw 5 0x305#12 6), (0x30033073, .csrrc 0 0x300#12 6), (0x341022F3, .csrrs 5 0x341#12
      0), (0x3402D073, .csrrwi 0 0x340#12 0x5#5), (0x300472F3, .csrrci 5 0x300#12 0x8#5), (0x30046073,
      .csrrsi 0 0x300#12 0x8#5), (0x00000073, .ecall), (0x00100073, .ebreak)] :
      List (Nat × Instr)).all (fun r => codes 32 r.1 r.2) = true := by decide

/-- The example words of 47_bitmanip_zba_zbb.md. -/
theorem test_decode_zba_zbb :
    ([(0x2020A1B3, .sh1add 3 1 2), (0x2020C1B3, .sh2add 3 1 2), (0x2020E1B3, .sh3add 3 1 2), (0x4020F1B3,
      .andn 3 1 2), (0x60009193, .clz 3 1), (0x60209193, .cpop 3 1), (0x60109193, .ctz 3 1), (0x0A20E1B3,
      .max 3 1 2), (0x0A20F1B3, .maxu 3 1 2), (0x0A20C1B3, .min 3 1 2), (0x0A20D1B3, .minu 3 1 2),
      (0x2870D193, .orcB 3 1)] :
      List (Nat × Instr)).all (fun r => codes 32 r.1 r.2) = true ∧
    ([(0x4020E1B3, .orn 3 1 2), (0x6980D193, .rev8 3 1), (0x602091B3, .rol 3 1 2), (0x6020D1B3, .ror 3 1 2),
      (0x6080D193, .rori 3 1 0x8#5), (0x60409193, .sextB 3 1), (0x60509193, .sextH 3 1), (0x4020C1B3, .xnor
      3 1 2), (0x0800C1B3, .zextH 3 1)] :
      List (Nat × Instr)).all (fun r => codes 32 r.1 r.2) = true := by decide

/-- The example words of 48_bitmanip_zbc_zbs.md. -/
theorem test_decode_zbc_zbs :
    ([(0x0A2091B3, .clmul 3 1 2), (0x0A20B1B3, .clmulh 3 1 2), (0x0A20A1B3, .clmulr 3 1 2), (0x482091B3,
      .bclr 3 1 2), (0x48709193, .bclri 3 1 0x7#5), (0x4820D1B3, .bext 3 1 2), (0x4870D193, .bexti 3 1
      0x7#5), (0x682091B3, .binv 3 1 2), (0x68709193, .binvi 3 1 0x7#5), (0x282091B3, .bset 3 1 2),
      (0x28709193, .bseti 3 1 0x7#5)] :
      List (Nat × Instr)).all (fun r => codes 32 r.1 r.2) = true := by decide

/-- The example words of 49_unlisted_fence_mret_wfi.md. -/
theorem test_decode_system :
    ([(0x0FF0000F, .fence 0 15 15 0 0), (0x0000100F, .fenceI 0 0 0), (0x30200073, .mret), (0x10500073, .wfi)] :
      List (Nat × Instr)).all (fun r => codes 32 r.1 r.2) = true := by decide

/-- One word a family, written out field by field from the family's Encoding line: `bgeu x6, x7, -4` (R157),
`sh x5, -2(x2)` (R177), `remu x3, x1, x2` (R197), `sc.w x6, x5, (x10)` with aq and rl (R212), `csrrci x5, mstatus, 8`
(R285), `rori x3, x1, 8` (R317), `bseti x3, x1, 7` (R340), `srai x2, x1, 31` (R139), `mret` (R352). -/
theorem test_decode_field_by_field :
    codes 32 0b1111111_00111_00110_111_11101_1100011 (.bgeu 6 7 0x1FFC#13) ∧
    codes 32 0b1111111_00101_00010_001_11110_0100011 (.sh 5 0xFFE#12 2) ∧
    codes 32 0b0000001_00010_00001_111_00011_0110011 (.remu 3 1 2) ∧
    codes 32 0b00011_1_1_00101_01010_010_00110_0101111 (.scW 6 5 10 true true) ∧
    codes 32 0b001100000000_01000_111_00101_1110011 (.csrrci 5 0x300#12 8#5) ∧
    codes 32 0b0110000_01000_00001_101_00011_0010011 (.rori 3 1 8#5) ∧
    codes 32 0b0010100_00111_00001_001_00011_0010011 (.bseti 3 1 7#5) ∧
    codes 32 0b0100000_11111_00001_101_00010_0010011 (.srai 2 1 31#5) ∧
    codes 32 0b001100000010_00000_000_00000_1110011 .mret := by decide

/-- The two scattered 16-bit offsets, one bit at a time: `c.j` (R259, R248) and `c.beqz x8` (R260). -/
theorem test_decode_compressed_offsets :
    ([(0xA009, 0x002), (0xA011, 0x004), (0xA021, 0x008), (0xA801, 0x010), (0xA005, 0x020), (0xA081, 0x040),
      (0xA041, 0x080), (0xA201, 0x100), (0xA401, 0x200), (0xA101, 0x400), (0xB001, 0x800)] :
      List (Nat × BitVec 12)).all (fun r => codes 16 r.1 (.cJ r.2)) = true ∧
    ([(0xC009, 0x002), (0xC011, 0x004), (0xC401, 0x008), (0xC801, 0x010), (0xC005, 0x020), (0xC021, 0x040),
      (0xC041, 0x080), (0xD001, 0x100)] : List (Nat × BitVec 9)).all (fun r => codes 16 r.1 (.cBeqz 8 r.2)) = true := by
  decide

/-! ## One step -/

/-- One step from one small machine: what stands there before, and what the vector says of the next state. -/
structure Case where
  bits : Nat
  word : Nat
  pc : Word := 0x100
  regs : List (Reg × Word) := []
  words : List (Nat × Word) := []
  csrs : List (Csr × Word) := []
  lm : Bool := false
  reads : List ReadAnswer := []
  writes : List WriteAnswer := []
  toPc : Word
  toRegs : List (Reg × Word) := []
  toWords : List (Nat × Word) := []
  toCsrs : List (Csr × Word) := []
  toLm : Bool := false
  cost : Option Nat := none

/-- The vectors' launch (section 1 of 95_test_vectors.md): 0x0000 to 0xFFFF backed, `mtvec` 0x40. -/
def machineAt (pc : Word) (image : Memory) (reads : List ReadAnswer) (writes : List WriteAnswer) : State :=
  State.launch ⟨pc, 0x40, [⟨0, 0x10000, [.fetch, .read, .write, .exclusiveRead, .exclusiveWrite], [1, 2, 4]⟩], image,
    reads, writes⟩

/-- Words in memory, each least significant byte lowest. -/
def imageOf (words : List (Nat × Word)) : Memory :=
  words.foldl (fun m w => m.writeBytes w.1 (splitBytes 4 w.2)) []

/-- General registers given values. -/
def withRegs (regs : List (Reg × Word)) (s : State) : State := regs.foldl (fun s r => writeReg r.1 r.2 s) s

/-- Control and status registers given values. -/
def withCsrs (csrs : List (Csr × Word)) (s : State) : State := csrs.foldl (fun s c => csrWrite c.1 c.2 s) s

/-- The state a case starts in. -/
def Case.start (c : Case) : State :=
  (withCsrs c.csrs (withRegs c.regs ((machineAt c.pc (imageOf c.words) c.reads c.writes).setLm c.lm))).withFetchWord
    c.bits c.word

/-- The next state is as the case says. -/
def Case.passes (c : Case) : Bool :=
  match step c.start with
  | .next t =>
    t.pc == c.toPc && c.toRegs.all (fun r => readReg r.1 t == r.2) &&
      c.toWords.all (fun w => t.mem.readBytes 4 w.1 == some (splitBytes 4 w.2)) &&
      c.toCsrs.all (fun r => csrValue r.1 t == r.2) && t.lm == c.toLm && c.cost.all (fun k => t.cycles == k)
  | _ => false

/-- V1 to V18 of 95_test_vectors.md. -/
def integer_registerCases : List Case :=
  [ { bits := 32, word := 0x006283B3, regs := [(5, 0x7FFFFFFF), (6, 0x1)], toPc := 0x104, toRegs := [(7, 0x80000000)],
      cost := some 1 },
    { bits := 32, word := 0x005282B3, regs := [(5, 0x80000000)], toPc := 0x104, toRegs := [(5, 0x0)], cost := some 1 },
    { bits := 32, word := 0x406283B3, regs := [(5, 0x0), (6, 0x1)], toPc := 0x104, toRegs := [(7, 0xFFFFFFFF)],
      cost := some 1 },
    { bits := 32, word := 0x406283B3, regs := [(5, 0x80000000), (6, 0x1)], toPc := 0x104, toRegs := [(7, 0x7FFFFFFF)],
      cost := some 1 },
    { bits := 32, word := 0x0062A3B3, regs := [(5, 0xFFFFFFFF), (6, 0x1)], toPc := 0x104, toRegs := [(7, 0x1)],
      cost := some 1 },
    { bits := 32, word := 0x0062A3B3, regs := [(5, 0x80000000), (6, 0x7FFFFFFF)], toPc := 0x104, toRegs := [(7, 0x1)],
      cost := some 1 },
    { bits := 32, word := 0x0062B3B3, regs := [(5, 0xFFFFFFFF), (6, 0x1)], toPc := 0x104, toRegs := [(7, 0x0)],
      cost := some 1 },
    { bits := 32, word := 0x0062F3B3, regs := [(5, 0xFF00FF00), (6, 0xF0F0F0F)], toPc := 0x104,
      toRegs := [(7, 0xF000F00)], cost := some 1 },
    { bits := 32, word := 0x0062E3B3, regs := [(5, 0xFF00FF00), (6, 0xF0F0F0F)], toPc := 0x104,
      toRegs := [(7, 0xFF0FFF0F)], cost := some 1 } ] ++
  [ { bits := 32, word := 0x0062C3B3, regs := [(5, 0xFF00FF00), (6, 0xF0F0F0F)], toPc := 0x104,
      toRegs := [(7, 0xF00FF00F)], cost := some 1 },
    { bits := 32, word := 0x006293B3, regs := [(5, 0x1), (6, 0x1F)], toPc := 0x104, toRegs := [(7, 0x80000000)],
      cost := some 1 },
    { bits := 32, word := 0x006293B3, regs := [(5, 0x1), (6, 0x20)], toPc := 0x104, toRegs := [(7, 0x1)],
      cost := some 1 },
    { bits := 32, word := 0x0062D3B3, regs := [(5, 0x80000000), (6, 0x1F)], toPc := 0x104, toRegs := [(7, 0x1)],
      cost := some 1 },
    { bits := 32, word := 0x0062D3B3, regs := [(5, 0x80000000), (6, 0xFFFFFFE4)], toPc := 0x104,
      toRegs := [(7, 0x8000000)], cost := some 1 },
    { bits := 32, word := 0x4062D3B3, regs := [(5, 0x80000000), (6, 0x1F)], toPc := 0x104,
      toRegs := [(7, 0xFFFFFFFF)], cost := some 1 },
    { bits := 32, word := 0x4062D3B3, regs := [(5, 0x7FFFFFFF), (6, 0x1F)], toPc := 0x104, toRegs := [(7, 0x0)],
      cost := some 1 } ]

theorem test_integer_register : integer_registerCases.all Case.passes = true := by decide

/-- V21 to V39 of 95_test_vectors.md. -/
def integer_immediateCases : List Case :=
  [ { bits := 32, word := 0x7FF28293, regs := [(5, 0x7FFFF801)], toPc := 0x104, toRegs := [(5, 0x80000000)],
      cost := some 1 },
    { bits := 32, word := 0x80030293, regs := [(6, 0x0)], toPc := 0x104, toRegs := [(5, 0xFFFFF800)], cost := some 1 },
    { bits := 32, word := 0xFFF32293, regs := [(6, 0x80000000)], toPc := 0x104, toRegs := [(5, 0x1)], cost := some 1 },
    { bits := 32, word := 0xFFF33293, regs := [(6, 0xFFFFFFFE)], toPc := 0x104, toRegs := [(5, 0x1)], cost := some 1 },
    { bits := 32, word := 0xFF037293, regs := [(6, 0x12345678)], toPc := 0x104, toRegs := [(5, 0x12345670)],
      cost := some 1 },
    { bits := 32, word := 0xF0036293, regs := [(6, 0x12)], toPc := 0x104, toRegs := [(5, 0xFFFFFF12)],
      cost := some 1 },
    { bits := 32, word := 0xFFF34293, regs := [(6, 0x12345678)], toPc := 0x104, toRegs := [(5, 0xEDCBA987)],
      cost := some 1 },
    { bits := 32, word := 0x01F31293, regs := [(6, 0x3)], toPc := 0x104, toRegs := [(5, 0x80000000)], cost := some 1 },
    { bits := 32, word := 0x01F35293, regs := [(6, 0x80000000)], toPc := 0x104, toRegs := [(5, 0x1)], cost := some 1 } ] ++
  [ { bits := 32, word := 0x41F35293, regs := [(6, 0x80000000)], toPc := 0x104, toRegs := [(5, 0xFFFFFFFF)],
      cost := some 1 },
    { bits := 32, word := 0x40435293, regs := [(6, 0xF0000000)], toPc := 0x104, toRegs := [(5, 0xFF000000)],
      cost := some 1 },
    { bits := 32, word := 0xFFFFF2B7, toPc := 0x104, toRegs := [(5, 0xFFFFF000)], cost := some 1 },
    { bits := 32, word := 0xFFFFF297, toPc := 0x104, toRegs := [(5, 0xFFFFF100)], cost := some 1 } ]

theorem test_integer_immediate : integer_immediateCases.all Case.passes = true := by decide

/-- V40 to V58 of 95_test_vectors.md. -/
def jumps_and_branchesCases : List Case :=
  [ { bits := 32, word := 0x001000EF, toPc := 0x900, toRegs := [(1, 0x104)], cost := some 2 },
    { bits := 32, word := 0x006000EF, words := [(0x104, 0x130000), (0x108, 0x0)], toPc := 0x106,
      toRegs := [(1, 0x104)], cost := some 3 },
    { bits := 32, word := 0x000280E7, regs := [(5, 0x201)], toPc := 0x200, toRegs := [(1, 0x104)], cost := some 2 },
    { bits := 32, word := 0x004080E7, regs := [(1, 0x200)], toPc := 0x204, toRegs := [(1, 0x104)], cost := some 2 },
    { bits := 32, word := 0x00628863, regs := [(5, 0x7), (6, 0x7)], toPc := 0x110, cost := some 2 },
    { bits := 32, word := 0x00628863, regs := [(5, 0x7), (6, 0x8)], toPc := 0x104, cost := some 1 },
    { bits := 32, word := 0xFE029CE3, regs := [(5, 0x1)], toPc := 0xF8, cost := some 2 },
    { bits := 32, word := 0xFE029CE3, regs := [(5, 0x0)], toPc := 0x104, cost := some 1 },
    { bits := 32, word := 0x0062C463, regs := [(5, 0xFFFFFFFF), (6, 0x0)], toPc := 0x108, cost := some 2 } ] ++
  [ { bits := 32, word := 0x0062C463, regs := [(5, 0x0), (6, 0xFFFFFFFF)], toPc := 0x104, cost := some 1 },
    { bits := 32, word := 0x0062D463, regs := [(5, 0x0), (6, 0xFFFFFFFF)], toPc := 0x108, cost := some 2 },
    { bits := 32, word := 0x0062D463, regs := [(5, 0x5), (6, 0x5)], toPc := 0x108, cost := some 2 },
    { bits := 32, word := 0x0062E463, regs := [(5, 0x0), (6, 0xFFFFFFFF)], toPc := 0x108, cost := some 2 },
    { bits := 32, word := 0x0062E463, regs := [(5, 0xFFFFFFFF), (6, 0x0)], toPc := 0x104, cost := some 1 },
    { bits := 32, word := 0x0062F463, regs := [(5, 0xFFFFFFFF), (6, 0x0)], toPc := 0x108, cost := some 2 },
    { bits := 32, word := 0x8062F063, pc := 0x1100, regs := [(5, 0x0), (6, 0x0)], toPc := 0x100, cost := some 2 } ]

theorem test_jumps_and_branches : jumps_and_branchesCases.all Case.passes = true := by decide

/-- V61 to V79 of 95_test_vectors.md. -/
def loads_and_storesCases : List Case :=
  [ { bits := 32, word := 0xFFC52283, regs := [(10, 0x2004)], words := [(0x2000, 0x8899AABB)], toPc := 0x104,
      toRegs := [(5, 0x8899AABB)] },
    { bits := 32, word := 0x00152283, regs := [(10, 0x2000)], words := [(0x2000, 0x8899AABB)], toPc := 0x40,
      toCsrs := [(.mepc, 0x100), (.mcause, 0x4)] },
    { bits := 32, word := 0x00251283, regs := [(10, 0x2000)], words := [(0x2000, 0x8899AABB)], toPc := 0x104,
      toRegs := [(5, 0xFFFF8899)] },
    { bits := 32, word := 0x00151283, regs := [(10, 0x2000)], words := [(0x2000, 0x8899AABB)], toPc := 0x40,
      toCsrs := [(.mepc, 0x100), (.mcause, 0x4)] },
    { bits := 32, word := 0x00255283, regs := [(10, 0x2000)], words := [(0x2000, 0x8899AABB)], toPc := 0x104,
      toRegs := [(5, 0x8899)] },
    { bits := 32, word := 0x00350283, regs := [(10, 0x2000)], words := [(0x2000, 0x8899AABB)], toPc := 0x104,
      toRegs := [(5, 0xFFFFFF88)] },
    { bits := 32, word := 0x00354283, regs := [(10, 0x2000)], words := [(0x2000, 0x8899AABB)], toPc := 0x104,
      toRegs := [(5, 0x88)] },
    { bits := 32, word := 0x00552023, regs := [(5, 0x11223344), (10, 0x2000)], toPc := 0x104,
      toWords := [(0x2000, 0x11223344)], cost := some 1 },
    { bits := 32, word := 0x00552123, regs := [(5, 0x1), (10, 0x2000)], words := [(0x2000, 0x8899AABB)], toPc := 0x40,
      toCsrs := [(.mepc, 0x100), (.mcause, 0x6)] } ] ++
  [ { bits := 32, word := 0x00551123, regs := [(5, 0x11223344), (10, 0x2000)], words := [(0x2000, 0x0)],
      toPc := 0x104, toWords := [(0x2000, 0x33440000)], cost := some 1 },
    { bits := 32, word := 0x005511A3, regs := [(5, 0x1), (10, 0x2000)], words := [(0x2000, 0x8899AABB)], toPc := 0x40,
      toCsrs := [(.mepc, 0x100), (.mcause, 0x6)] },
    { bits := 32, word := 0x005500A3, regs := [(5, 0x11223344), (10, 0x2000)], words := [(0x2000, 0x0)],
      toPc := 0x104, toWords := [(0x2000, 0x4400)], cost := some 1 } ]

theorem test_loads_and_stores : loads_and_storesCases.all Case.passes = true := by decide

/-- V83 to V92 of 95_test_vectors.md. -/
def multiplyCases : List Case :=
  [ { bits := 32, word := 0x026283B3, regs := [(5, 0xFFFFFFFF), (6, 0xFFFFFFFF)], toPc := 0x104,
      toRegs := [(7, 0x1)] },
    { bits := 32, word := 0x026283B3, regs := [(5, 0x12345678), (6, 0x9ABCDEF0)], toPc := 0x104,
      toRegs := [(7, 0x242D2080)] },
    { bits := 32, word := 0x026293B3, regs := [(5, 0x80000000), (6, 0x80000000)], toPc := 0x104,
      toRegs := [(7, 0x40000000)] },
    { bits := 32, word := 0x026293B3, regs := [(5, 0x80000000), (6, 0x7FFFFFFF)], toPc := 0x104,
      toRegs := [(7, 0xC0000000)] },
    { bits := 32, word := 0x0262A3B3, regs := [(5, 0xFFFFFFFF), (6, 0xFFFFFFFF)], toPc := 0x104,
      toRegs := [(7, 0xFFFFFFFF)] },
    { bits := 32, word := 0x0262A3B3, regs := [(5, 0x80000000), (6, 0xFFFFFFFF)], toPc := 0x104,
      toRegs := [(7, 0x80000000)] },
    { bits := 32, word := 0x0262B3B3, regs := [(5, 0xFFFFFFFF), (6, 0xFFFFFFFF)], toPc := 0x104,
      toRegs := [(7, 0xFFFFFFFE)], cost := some 18 },
    { bits := 32, word := 0x0262B3B3, regs := [(5, 0x12345678), (6, 0x9ABCDEF0)], toPc := 0x104,
      toRegs := [(7, 0xB00EA4E)], cost := some 18 } ]

theorem test_multiply : multiplyCases.all Case.passes = true := by decide

/-- V93 to V104 of 95_test_vectors.md. -/
def divideCases : List Case :=
  [ { bits := 32, word := 0x0262C3B3, regs := [(5, 0xFFFFFFF9), (6, 0x2)], toPc := 0x104,
      toRegs := [(7, 0xFFFFFFFD)] },
    { bits := 32, word := 0x0262C3B3, regs := [(5, 0x80000000), (6, 0xFFFFFFFF)], toPc := 0x104,
      toRegs := [(7, 0x80000000)] },
    { bits := 32, word := 0x0262D3B3, regs := [(5, 0xFFFFFFF9), (6, 0x2)], toPc := 0x104, toRegs := [(7, 0x7FFFFFFC)],
      cost := some 18 },
    { bits := 32, word := 0x0262D3B3, regs := [(5, 0x7), (6, 0x0)], toPc := 0x104, toRegs := [(7, 0xFFFFFFFF)],
      cost := some 18 },
    { bits := 32, word := 0x0262E3B3, regs := [(5, 0xFFFFFFF9), (6, 0x0)], toPc := 0x104,
      toRegs := [(7, 0xFFFFFFF9)] },
    { bits := 32, word := 0x0262E3B3, regs := [(5, 0x80000000), (6, 0xFFFFFFFF)], toPc := 0x104,
      toRegs := [(7, 0x0)] },
    { bits := 32, word := 0x0262F3B3, regs := [(5, 0xFFFFFFF9), (6, 0x2)], toPc := 0x104, toRegs := [(7, 0x1)],
      cost := some 18 },
    { bits := 32, word := 0x0262F3B3, regs := [(5, 0x7), (6, 0x0)], toPc := 0x104, toRegs := [(7, 0x7)],
      cost := some 18 } ]

theorem test_divide : divideCases.all Case.passes = true := by decide

/-- V105 to V113 of 95_test_vectors.md. -/
def reserve_and_conditionalCases : List Case :=
  [ { bits := 32, word := 0x100522AF, regs := [(10, 0x2000)], words := [(0x2000, 0xA)], reads := [.granted],
      toPc := 0x104, toRegs := [(5, 0xA)], toLm := true },
    { bits := 32, word := 0x100522AF, regs := [(10, 0x2002)], words := [(0x2000, 0xA)], toPc := 0x40,
      toCsrs := [(.mepc, 0x100), (.mcause, 0x4)] },
    { bits := 32, word := 0x1855232F, regs := [(5, 0xB), (10, 0x2000)], words := [(0x2000, 0xA)], lm := true,
      writes := [.ok], toPc := 0x104, toRegs := [(6, 0x0)], toWords := [(0x2000, 0xB)], toLm := false },
    { bits := 32, word := 0x1855232F, regs := [(5, 0xB), (10, 0x2000)], words := [(0x2000, 0xA)], lm := true,
      writes := [.lost], toPc := 0x104, toRegs := [(6, 0x1)], toLm := false } ]

theorem test_reserve_and_conditional : reserve_and_conditionalCases.all Case.passes = true := by decide

/-- V114 to V127 of 95_test_vectors.md. -/
def amosCases : List Case :=
  [ { bits := 32, word := 0x086522AF, regs := [(6, 0x5), (10, 0x2000)], words := [(0x2000, 0xA)], reads := [.granted],
      writes := [.ok], toPc := 0x104, toRegs := [(5, 0xA)], toWords := [(0x2000, 0x5)], cost := some 4 },
    { bits := 32, word := 0x006522AF, regs := [(6, 0x5), (10, 0x2000)], words := [(0x2000, 0xA)],
      reads := [.granted, .granted, .granted], writes := [.lost, .lost, .ok], toPc := 0x104, toRegs := [(5, 0xA)],
      toWords := [(0x2000, 0xF)], cost := some 12 },
    { bits := 32, word := 0x006522AF, regs := [(6, 0x5), (10, 0x2000)], words := [(0x2000, 0xA)], reads := [.refused],
      toPc := 0x40, toCsrs := [(.mepc, 0x100), (.mcause, 0x7)] },
    { bits := 32, word := 0x206522AF, regs := [(6, 0xF), (10, 0x2000)], words := [(0x2000, 0xA)], reads := [.granted],
      writes := [.ok], toPc := 0x104, toRegs := [(5, 0xA)], toWords := [(0x2000, 0x5)], cost := some 4 },
    { bits := 32, word := 0x606522AF, regs := [(6, 0x3), (10, 0x2000)], words := [(0x2000, 0xA)], reads := [.granted],
      writes := [.ok], toPc := 0x104, toRegs := [(5, 0xA)], toWords := [(0x2000, 0x2)], cost := some 4 },
    { bits := 32, word := 0x406522AF, regs := [(6, 0x5), (10, 0x2000)], words := [(0x2000, 0xA)], reads := [.granted],
      writes := [.ok], toPc := 0x104, toRegs := [(5, 0xA)], toWords := [(0x2000, 0xF)], cost := some 4 },
    { bits := 32, word := 0x806522AF, regs := [(6, 0xFFFFFFFF), (10, 0x2000)], words := [(0x2000, 0xA)],
      reads := [.granted], writes := [.ok], toPc := 0x104, toRegs := [(5, 0xA)],
      toWords := [(0x2000, 0xFFFFFFFF)], cost := some 4 },
    { bits := 32, word := 0xA06522AF, regs := [(6, 0xFFFFFFFF), (10, 0x2000)], words := [(0x2000, 0xA)],
      reads := [.granted], writes := [.ok], toPc := 0x104, toRegs := [(5, 0xA)], cost := some 4 },
    { bits := 32, word := 0xC06522AF, regs := [(6, 0xFFFFFFFF), (10, 0x2000)], words := [(0x2000, 0xA)],
      reads := [.granted], writes := [.ok], toPc := 0x104, toRegs := [(5, 0xA)], cost := some 4 } ] ++
  [ { bits := 32, word := 0xE06522AF, regs := [(6, 0xFFFFFFFF), (10, 0x2000)], words := [(0x2000, 0xA)],
      reads := [.granted], writes := [.ok], toPc := 0x104, toRegs := [(5, 0xA)],
      toWords := [(0x2000, 0xFFFFFFFF)], cost := some 4 } ]

theorem test_amos : amosCases.all Case.passes = true := by decide

/-- V131 to V151 of 95_test_vectors.md. -/
def compressed_1Cases : List Case :=
  [ { bits := 16, word := 0x1FFC, regs := [(2, 0x2000)], toPc := 0x102, toRegs := [(15, 0x23FC)], cost := some 1 },
    { bits := 16, word := 0x5C64, regs := [(8, 0x2000)], words := [(0x207C, 0x1)], toPc := 0x102,
      toRegs := [(9, 0x1)] },
    { bits := 16, word := 0xC404, regs := [(8, 0x2000), (9, 0xCAFEF00D)], toPc := 0x102,
      toWords := [(0x2008, 0xCAFEF00D)], cost := some 1 },
    { bits := 16, word := 0x0001, toPc := 0x102, cost := some 1 },
    { bits := 16, word := 0x12FD, regs := [(5, 0x0)], toPc := 0x102, toRegs := [(5, 0xFFFFFFFF)], cost := some 1 },
    { bits := 16, word := 0x2801, pc := 0x102, toPc := 0x112, toRegs := [(1, 0x104)], cost := some 2 },
    { bits := 16, word := 0x5501, toPc := 0x102, toRegs := [(10, 0xFFFFFFE0)], cost := some 1 },
    { bits := 16, word := 0x713D, regs := [(2, 0x2000)], toPc := 0x102, toRegs := [(2, 0x1FE0)], cost := some 1 },
    { bits := 16, word := 0x617D, regs := [(2, 0x2000)], toPc := 0x102, toRegs := [(2, 0x21F0)], cost := some 1 } ] ++
  [ { bits := 16, word := 0x72FD, toPc := 0x102, toRegs := [(5, 0xFFFFF000)], cost := some 1 },
    { bits := 16, word := 0x8011, regs := [(8, 0x80000000)], toPc := 0x102, toRegs := [(8, 0x8000000)],
      cost := some 1 },
    { bits := 16, word := 0x8411, regs := [(8, 0x80000000)], toPc := 0x102, toRegs := [(8, 0xF8000000)],
      cost := some 1 },
    { bits := 16, word := 0x9841, regs := [(8, 0x12345678)], toPc := 0x102, toRegs := [(8, 0x12345670)],
      cost := some 1 } ]

theorem test_compressed_1 : compressed_1Cases.all Case.passes = true := by decide

/-- V152 to V172 of 95_test_vectors.md. -/
def compressed_2Cases : List Case :=
  [ { bits := 16, word := 0x8C05, regs := [(8, 0x5), (9, 0x7)], toPc := 0x102, toRegs := [(8, 0xFFFFFFFE)],
      cost := some 1 },
    { bits := 16, word := 0x8C25, regs := [(8, 0xFF00), (9, 0xFF0)], toPc := 0x102, toRegs := [(8, 0xF0F0)],
      cost := some 1 },
    { bits := 16, word := 0x8C45, regs := [(8, 0xFF00), (9, 0xFF0)], toPc := 0x102, toRegs := [(8, 0xFFF0)],
      cost := some 1 },
    { bits := 16, word := 0x8C65, regs := [(8, 0xFF00), (9, 0xFF0)], toPc := 0x102, toRegs := [(8, 0xF00)],
      cost := some 1 },
    { bits := 16, word := 0xBFF5, pc := 0x104, toPc := 0x100, cost := some 2 },
    { bits := 16, word := 0xC401, regs := [(8, 0x0)], toPc := 0x108, cost := some 2 },
    { bits := 16, word := 0xC401, regs := [(8, 0x1)], toPc := 0x102, cost := some 1 },
    { bits := 16, word := 0xFC6D, pc := 0x106, regs := [(8, 0x1)], toPc := 0x100, cost := some 2 },
    { bits := 16, word := 0xF001, pc := 0x200, regs := [(8, 0x0)], toPc := 0x202, cost := some 1 } ] ++
  [ { bits := 16, word := 0x02FE, regs := [(5, 0x3)], toPc := 0x102, toRegs := [(5, 0x80000000)], cost := some 1 },
    { bits := 16, word := 0x50FE, regs := [(2, 0x2000)], words := [(0x20FC, 0x108)], toPc := 0x102,
      toRegs := [(1, 0x108)] },
    { bits := 16, word := 0x8282, regs := [(5, 0x203)], toPc := 0x202, cost := some 2 },
    { bits := 16, word := 0x852E, regs := [(11, 0x1234)], toPc := 0x102, toRegs := [(10, 0x1234)], cost := some 1 },
    { bits := 16, word := 0x9002, toPc := 0x40, toCsrs := [(.mepc, 0x100), (.mcause, 0x3)], cost := some 3 },
    { bits := 16, word := 0x9082, regs := [(1, 0x200)], toPc := 0x200, toRegs := [(1, 0x102)], cost := some 2 },
    { bits := 16, word := 0x952E, regs := [(10, 0x1), (11, 0xFFFFFFFF)], toPc := 0x102, toRegs := [(10, 0x0)],
      cost := some 1 },
    { bits := 16, word := 0xC616, regs := [(2, 0x2000), (5, 0x55)], toPc := 0x102, toWords := [(0x200C, 0x55)],
      cost := some 1 } ]

theorem test_compressed_2 : compressed_2Cases.all Case.passes = true := by decide

/-- V185 to V201 of 95_test_vectors.md. -/
def csrCases : List Case :=
  [ { bits := 32, word := 0x340312F3, regs := [(6, 0x1234)], csrs := [(.mscratch, 0xAAAA5555)], toPc := 0x104,
      toRegs := [(5, 0xAAAA5555)], toCsrs := [(.mscratch, 0x1234)], cost := some 1 },
    { bits := 32, word := 0x30531073, regs := [(6, 0x203)], toPc := 0x104, toCsrs := [(.mtvec, 0x201)],
      cost := some 1 },
    { bits := 32, word := 0x300322F3, regs := [(6, 0xFFFFFFFF)], toPc := 0x104, toRegs := [(5, 0x1800)],
      toCsrs := [(.mstatus, 0x1888)], cost := some 1 },
    { bits := 32, word := 0x300332F3, regs := [(6, 0x8)], csrs := [(.mstatus, 0x1888)], toPc := 0x104,
      toRegs := [(5, 0x1888)], toCsrs := [(.mstatus, 0x1880)], cost := some 1 },
    { bits := 32, word := 0x340FD2F3, csrs := [(.mscratch, 0xF0)], toPc := 0x104, toRegs := [(5, 0xF0)],
      toCsrs := [(.mscratch, 0x1F)], cost := some 1 },
    { bits := 32, word := 0x300462F3, toPc := 0x104, toRegs := [(5, 0x1800)], toCsrs := [(.mstatus, 0x1808)],
      cost := some 1 },
    { bits := 32, word := 0x300472F3, csrs := [(.mstatus, 0x1808)], toPc := 0x104, toRegs := [(5, 0x1808)],
      toCsrs := [(.mstatus, 0x1800)], cost := some 1 } ]

theorem test_csr : csrCases.all Case.passes = true := by decide

/-- V205 to V257 of 95_test_vectors.md. -/
def trap_requests_and_systemCases : List Case :=
  [ { bits := 32, word := 0x00000073, csrs := [(.mtvec, 0x41), (.mstatus, 0x1808)], toPc := 0x40,
      toCsrs := [(.mstatus, 0x1880), (.mepc, 0x100), (.mcause, 0xB)], cost := some 3 },
    { bits := 32, word := 0x00100073, csrs := [(.mtvec, 0x40)], toPc := 0x40,
      toCsrs := [(.mepc, 0x100), (.mcause, 0x3)], cost := some 3 },
    { bits := 32, word := 0x0FF0000F, toPc := 0x104 },
    { bits := 32, word := 0x0000100F, toPc := 0x104 },
    { bits := 32, word := 0x30200073, csrs := [(.mepc, 0x124), (.mstatus, 0x1880)], toPc := 0x124,
      toCsrs := [(.mstatus, 0x1888)] },
    { bits := 32, word := 0x30200073, csrs := [(.mepc, 0x124), (.mstatus, 0x1808)], toPc := 0x124,
      toCsrs := [(.mstatus, 0x1880)] },
    { bits := 32, word := 0x10500073, toPc := 0x104 } ]

theorem test_trap_requests_and_system : trap_requests_and_systemCases.all Case.passes = true := by decide

/-- V207 to V224 of 95_test_vectors.md. -/
def add_shifted_and_logicCases : List Case :=
  [ { bits := 32, word := 0x2062A3B3, regs := [(5, 0x12345678), (6, 0x10)], toPc := 0x104,
      toRegs := [(7, 0x2468AD00)], cost := some 1 },
    { bits := 32, word := 0x2062C3B3, regs := [(5, 0x12345678), (6, 0x10)], toPc := 0x104,
      toRegs := [(7, 0x48D159F0)], cost := some 1 },
    { bits := 32, word := 0x2062E3B3, regs := [(5, 0x12345678), (6, 0x10)], toPc := 0x104,
      toRegs := [(7, 0x91A2B3D0)], cost := some 1 },
    { bits := 32, word := 0x2062E3B3, regs := [(5, 0x20000000), (6, 0xFFFFFFFF)], toPc := 0x104,
      toRegs := [(7, 0xFFFFFFFF)], cost := some 1 },
    { bits := 32, word := 0x4062F3B3, regs := [(5, 0xFF00FF00), (6, 0xF0F0F0F)], toPc := 0x104,
      toRegs := [(7, 0xF000F000)], cost := some 1 },
    { bits := 32, word := 0x4062E3B3, regs := [(5, 0xFF00FF00), (6, 0xF0F0F0F)], toPc := 0x104,
      toRegs := [(7, 0xFFF0FFF0)], cost := some 1 },
    { bits := 32, word := 0x4062C3B3, regs := [(5, 0xFF00FF00), (6, 0xF0F0F0F)], toPc := 0x104,
      toRegs := [(7, 0xFF00FF0)], cost := some 1 },
    { bits := 32, word := 0x0A62E3B3, regs := [(5, 0xFFFFFFFF), (6, 0x1)], toPc := 0x104, toRegs := [(7, 0x1)],
      cost := some 1 },
    { bits := 32, word := 0x0A62F3B3, regs := [(5, 0xFFFFFFFF), (6, 0x1)], toPc := 0x104, toRegs := [(7, 0xFFFFFFFF)],
      cost := some 1 } ] ++
  [ { bits := 32, word := 0x0A62C3B3, regs := [(5, 0xFFFFFFFF), (6, 0x1)], toPc := 0x104, toRegs := [(7, 0xFFFFFFFF)],
      cost := some 1 },
    { bits := 32, word := 0x0A62D3B3, regs := [(5, 0xFFFFFFFF), (6, 0x1)], toPc := 0x104, toRegs := [(7, 0x1)],
      cost := some 1 } ]

theorem test_add_shifted_and_logic : add_shifted_and_logicCases.all Case.passes = true := by decide

/-- V214 to V235 of 95_test_vectors.md. -/
def counts_bytes_rotatesCases : List Case :=
  [ { bits := 32, word := 0x60029393, regs := [(5, 0x10000)], toPc := 0x104, toRegs := [(7, 0xF)], cost := some 1 },
    { bits := 32, word := 0x60129393, regs := [(5, 0x10000)], toPc := 0x104, toRegs := [(7, 0x10)], cost := some 1 },
    { bits := 32, word := 0x60229393, regs := [(5, 0x12345678)], toPc := 0x104, toRegs := [(7, 0xD)], cost := some 1 },
    { bits := 32, word := 0x2872D393, regs := [(5, 0x120034)], toPc := 0x104, toRegs := [(7, 0xFF00FF)],
      cost := some 1 },
    { bits := 32, word := 0x6982D393, regs := [(5, 0x12345678)], toPc := 0x104, toRegs := [(7, 0x78563412)],
      cost := some 1 },
    { bits := 32, word := 0x606293B3, regs := [(5, 0x80000001), (6, 0x4)], toPc := 0x104, toRegs := [(7, 0x18)],
      cost := some 1 },
    { bits := 32, word := 0x6062D3B3, regs := [(5, 0x80000001), (6, 0x4)], toPc := 0x104, toRegs := [(7, 0x18000000)],
      cost := some 1 },
    { bits := 32, word := 0x6082D393, regs := [(5, 0x12345678)], toPc := 0x104, toRegs := [(7, 0x78123456)],
      cost := some 1 },
    { bits := 32, word := 0x60429393, regs := [(5, 0x80)], toPc := 0x104, toRegs := [(7, 0xFFFFFF80)],
      cost := some 1 } ] ++
  [ { bits := 32, word := 0x60529393, regs := [(5, 0x8000)], toPc := 0x104, toRegs := [(7, 0xFFFF8000)],
      cost := some 1 },
    { bits := 32, word := 0x0802C3B3, regs := [(5, 0xFFFF8000)], toPc := 0x104, toRegs := [(7, 0x8000)],
      cost := some 1 } ]

theorem test_counts_bytes_rotates : counts_bytes_rotatesCases.all Case.passes = true := by decide

/-- V236 to V241 of 95_test_vectors.md. -/
def carrylessCases : List Case :=
  [ { bits := 32, word := 0x0A6293B3, regs := [(5, 0x80000001), (6, 0x3)], toPc := 0x104, toRegs := [(7, 0x80000003)],
      cost := some 1 },
    { bits := 32, word := 0x0A62B3B3, regs := [(5, 0x80000001), (6, 0x3)], toPc := 0x104, toRegs := [(7, 0x1)],
      cost := some 1 },
    { bits := 32, word := 0x0A62A3B3, regs := [(5, 0x80000001), (6, 0x3)], toPc := 0x104, toRegs := [(7, 0x3)],
      cost := some 1 },
    { bits := 32, word := 0x0A6293B3, regs := [(5, 0xFFFFFFFF), (6, 0xFFFFFFFF)], toPc := 0x104,
      toRegs := [(7, 0x55555555)], cost := some 1 },
    { bits := 32, word := 0x0A62B3B3, regs := [(5, 0xFFFFFFFF), (6, 0xFFFFFFFF)], toPc := 0x104,
      toRegs := [(7, 0x55555555)], cost := some 1 },
    { bits := 32, word := 0x0A62A3B3, regs := [(5, 0xFFFFFFFF), (6, 0xFFFFFFFF)], toPc := 0x104,
      toRegs := [(7, 0xAAAAAAAA)], cost := some 1 } ]

theorem test_carryless : carrylessCases.all Case.passes = true := by decide

/-- V242 to V251 of 95_test_vectors.md. -/
def single_bitsCases : List Case :=
  [ { bits := 32, word := 0x486293B3, regs := [(5, 0xFFFFFFFF), (6, 0x1F)], toPc := 0x104,
      toRegs := [(7, 0x7FFFFFFF)], cost := some 1 },
    { bits := 32, word := 0x486293B3, regs := [(5, 0xFFFFFFFF), (6, 0x20)], toPc := 0x104,
      toRegs := [(7, 0xFFFFFFFE)], cost := some 1 },
    { bits := 32, word := 0x48029393, regs := [(5, 0xFFFFFFFF)], toPc := 0x104, toRegs := [(7, 0xFFFFFFFE)],
      cost := some 1 },
    { bits := 32, word := 0x4862D3B3, regs := [(5, 0x80000000), (6, 0x1F)], toPc := 0x104, toRegs := [(7, 0x1)],
      cost := some 1 },
    { bits := 32, word := 0x4842D393, regs := [(5, 0x10)], toPc := 0x104, toRegs := [(7, 0x1)], cost := some 1 },
    { bits := 32, word := 0x686293B3, regs := [(5, 0x0), (6, 0x1F)], toPc := 0x104, toRegs := [(7, 0x80000000)],
      cost := some 1 },
    { bits := 32, word := 0x69F29393, regs := [(5, 0xFFFFFFFF)], toPc := 0x104, toRegs := [(7, 0x7FFFFFFF)],
      cost := some 1 },
    { bits := 32, word := 0x286293B3, regs := [(5, 0x0), (6, 0x23)], toPc := 0x104, toRegs := [(7, 0x8)],
      cost := some 1 },
    { bits := 32, word := 0x29F29393, regs := [(5, 0x0)], toPc := 0x104, toRegs := [(7, 0x80000000)], cost := some 1 } ]

theorem test_single_bits : single_bitsCases.all Case.passes = true := by decide

/-- V174, V259, V265 of 95_test_vectors.md. -/
def illegal_and_unbackedCases : List Case :=
  [ { bits := 16, word := 0x0000, toPc := 0x40, toCsrs := [(.mepc, 0x100), (.mcause, 0x2)] },
    { bits := 32, word := 0x02029293, regs := [(5, 0x1)], toPc := 0x40, toCsrs := [(.mepc, 0x100), (.mcause, 0x2)] },
    { bits := 32, word := 0x0000000B, toPc := 0x40, toCsrs := [(.mepc, 0x100), (.mcause, 0x2)] } ]

theorem test_illegal_and_unbacked : illegal_and_unbackedCases.all Case.passes = true := by decide

/-! ## Witnesses: for every obligation with hypotheses, states and operands that meet them, clause by clause -/

/-- The whole address space backed. -/
def wideAt (pc : Word) (image : Memory) (reads : List ReadAnswer) (writes : List WriteAnswer) : State :=
  State.launch ⟨pc, 0x40, [Config.wholeSpace], image, reads, writes⟩

/-- Some memory at low addresses and at the top, and every base a clause needs. -/
def top : State :=
  withRegs [(1, 7), (2, 0x2000), (5, 0x11223344), (8, 0x2000), (10, 0xFFFFFFFC), (11, 0x7FC), (31, 0x80000000)]
    (wideAt 0xFFFFFFFC (imageOf [(0x2000, 0x0A), (0x207C, 0xDEADBEEF), (0x20FC, 0x80), (0xFFFFFFFC, 0x8899AABB)]) [] [])

/-- A machine whose map ends at 0xFFFF, with bases inside, at its end and outside. -/
def narrow : State :=
  withRegs [(2, 0x10000), (5, 1), (8, 0x10000), (10, 0x10000), (11, 0x2001), (12, 0xFFFFFFFF)]
    (machineAt 0x100 (imageOf [(0x2000, 0x0A)]) [] [])

theorem permitted_of {ks : List AccessKind} {n : Nat} {addr : Word} {s : State}
    (h : (addr.toNat % n == 0 && ks.all fun k => backed k n addr s) = true) : Permitted ks n addr s :=
  have h' := Bool.and_eq_true_iff.mp h
  ⟨beq_iff_eq.mp h'.1, List.all_eq_true.mp h'.2⟩

theorem holdsAt_of {n : Nat} {addr v : Word} {s : State}
    (h : (List.range n).all (fun i => s.mem.read (addr.toNat + i) == some ((v >>> (8 * i)).setWidth 8)) = true) :
    HoldsAt n addr v s :=
  fun i hi => beq_iff_eq.mp (List.all_eq_true.mp h i (List.mem_range.mpr hi))

theorem unbacked_of {ks : List AccessKind} {n : Nat} {addr : Word} {s : State} (k : AccessKind)
    (h : (addr.toNat % n == 0 && ks.contains k && !backed k n addr s) = true) : Unbacked ks n addr s :=
  have h' := Bool.and_eq_true_iff.mp h
  have h'' := Bool.and_eq_true_iff.mp h'.1
  ⟨beq_iff_eq.mp h''.1, k, by simpa using h''.2, by simpa using h'.2⟩

theorem next_of {o : Result} (h : (match o with | .next _ => true | _ => false) = true) : ∃ t, o = .next t := by
  cases o with
  | next t => exact ⟨t, rfl⟩
  | fault f => cases h
  | refused r => cases h

theorem next_fetching_of {o : Result} {j : Instr}
    (h : (match o with | .next t => (match fetchInstr t with | .got i => i == j | _ => false) | _ => false) = true) :
    ∃ t, o = .next t ∧ fetchInstr t = .got j := by
  split at h
  · rename_i t
    split at h
    · rename_i i hi
      exact ⟨t, rfl, by rw [hi, beq_iff_eq.mp h]⟩
    · cases h
  · cases h

theorem fault_of {o : Result} (h : (match o with | .fault _ => true | _ => false) = true) : ∃ f, o = .fault f := by
  cases o with
  | next t => cases h
  | fault f => exact ⟨f, rfl⟩
  | refused r => cases h

theorem refused_of {o : Result} (h : (match o with | .refused _ => true | _ => false) = true) : ∃ r, o = .refused r := by
  cases o with
  | next t => cases h
  | fault f => cases h
  | refused r => exact ⟨r, rfl⟩

/-- O1. -/
theorem witness_ZeroRegisterHardwired : (31 : Reg) ≠ 0 ∧ (0 : Reg) ≠ 31 := by decide

/-- O2, O3, O6, O15, O16, O17, O33 to O37, O39, O40, O41: the operands' old values, `x0` and `x31` among them. -/
theorem witness_operand_values : 7#32 = readReg 1 top ∧ 0x80000000#32 = readReg 31 top ∧ 0#32 = readReg 0 top := by
  decide

/-- A machine with a 32-bit instruction at 0x106, a 16-bit one at 0x10A, and nothing at 0x10E. -/
def targets : State := wideAt 0x100 (Memory.writeBytes [] 0x106 [0x13, 0x00, 0x00, 0x00, 0x01, 0x00]) [] []

/-- O5 and O6: an unaligned target, one with a 16-bit instruction, and one where there is no parcel (V43, V42, V138). -/
theorem witness_transfer_targets :
    Unaligned 0x106 targets ∧ ¬ Unaligned 0x10A targets ∧ ¬ Unaligned 0x10E targets :=
  ⟨⟨by decide, by decide, 0x13, 0x00, by decide, by decide, by decide⟩,
    fun h => by
      obtain ⟨b0, b1, h0, -, hl⟩ := h.long
      have hb : b0 = 0x01#8 := Option.some.inj (h0.symm.trans (by decide))
      subst hb
      exact absurd hl (by decide),
    fun h => by
      obtain ⟨b0, b1, h0, -, -⟩ := h.long
      exact absurd (h0.symm.trans (by decide : targets.mem.read (0x10E#32).toNat = none)) (by simp)⟩

/-- O7, 32-bit forms, at the top of the address space and at the ends of the displacement's range (0x7FC + (-2048)
wraps to 0xFFFFFFFC). -/
theorem witness_LoadsReadAndExtend :
    0xFFFFFFFC#32 = readReg 11 top + (0x800#12).signExtend 32 ∧
    Permitted [.read] 4 0xFFFFFFFC top ∧ HoldsAt 4 0xFFFFFFFC 0x8899AABB top ∧
    0xFFFFFFFE#32 = readReg 10 top + (2#12).signExtend 32 ∧
    Permitted [.read] 2 0xFFFFFFFE top ∧ HoldsAt 2 0xFFFFFFFE 0x8899 top ∧
    0xFFFFFFFF#32 = readReg 10 top + (3#12).signExtend 32 ∧
    Permitted [.read] 1 0xFFFFFFFF top ∧ HoldsAt 1 0xFFFFFFFF 0x88 top :=
  ⟨by decide, permitted_of (by decide), holdsAt_of (by decide), by decide, permitted_of (by decide),
    holdsAt_of (by decide), by decide, permitted_of (by decide), holdsAt_of (by decide)⟩

/-- O7, 16-bit forms, at their largest displacements. -/
theorem witness_LoadsReadAndExtend_compressed :
    0x207C#32 = readReg 8 top + (124#7).setWidth 32 ∧
    Permitted [.read] 4 0x207C top ∧ HoldsAt 4 0x207C 0xDEADBEEF top ∧
    0x20FC#32 = readReg 2 top + (252#8).setWidth 32 ∧ Permitted [.read] 4 0x20FC top ∧ HoldsAt 4 0x20FC 0x80 top :=
  ⟨by decide, permitted_of (by decide), holdsAt_of (by decide), by decide, permitted_of (by decide),
    holdsAt_of (by decide)⟩

/-- O8 and O13, misaligned: at 0x2001, and at 0xFFFFFFFF, which this map does not back. The 16-bit forms' bases are
misaligned in the second machine. -/
theorem witness_misaligned :
    0x2001#32 = readReg 11 narrow + (0#12).signExtend 32 ∧ (0x2001#32).toNat % 4 ≠ 0 ∧ (0x2001#32).toNat % 2 ≠ 0 ∧
    0xFFFFFFFF#32 = readReg 12 narrow + (0#12).signExtend 32 ∧ (0xFFFFFFFF#32).toNat % 4 ≠ 0 ∧
    0x2001#32 = readReg 11 narrow + (0#7).setWidth 32 ∧ 0x2001#32 = readReg 11 narrow ∧
    0x2002#32 = readReg 2 (writeReg 2 0x2002 narrow) + (0#8).setWidth 32 ∧ (0x2002#32).toNat % 4 ≠ 0 := by decide

/-- O8, O13, O21, unbacked: the first address past the map, for the five widths and kinds the clauses name. -/
theorem witness_unbacked :
    0x10000#32 = readReg 10 narrow + (0#12).signExtend 32 ∧ Unbacked [.read] 4 0x10000 narrow ∧
    Unbacked [.read] 2 0x10000 narrow ∧ Unbacked [.read] 1 0x10000 narrow ∧ Unbacked [.write] 4 0x10000 narrow ∧
    Unbacked [.write] 2 0x10000 narrow ∧ Unbacked [.write] 1 0x10000 narrow ∧
    0x10000#32 = readReg 8 narrow + (0#7).setWidth 32 ∧ 0x10000#32 = readReg 2 narrow + (0#8).setWidth 32 ∧
    0x10000#32 = readReg 10 narrow ∧ Unbacked exclusiveReadKinds 4 0x10000 narrow :=
  ⟨by decide, unbacked_of .read (by decide), unbacked_of .read (by decide), unbacked_of .read (by decide),
    unbacked_of .write (by decide), unbacked_of .write (by decide), unbacked_of .write (by decide), by decide, by decide,
    by decide, unbacked_of .read (by decide)⟩

/-- O13, the last clause: the map backs no write, the local monitor is set, the answer is ok. -/
theorem witness_StoreTraps_conditional :
    let s := (narrow.setLm true).setMonitorWrites [.ok];
    0x10000#32 = readReg 10 s ∧ Unbacked exclusiveWriteKinds 4 0x10000 s ∧ s.lm = true ∧ s.monitorWrites = .ok :: [] :=
  ⟨by decide, unbacked_of .write (by decide), by decide, by decide⟩

/-- A machine where only the last byte of the word at 0x3000 holds no value. -/
def gap : State :=
  withRegs [(2, 0x3000), (8, 0x3000), (10, 0x3000)] (wideAt 0x100 [(0x3000, 1), (0x3001, 2), (0x3002, 3)] [] [])

/-- O9, every clause, with the last byte of each range the missing one. -/
theorem witness_LoadOfNoValueFaults :
    gap.mem.read ((0x3000#32).toNat + 3) = none ∧ 0x3000#32 = readReg 10 gap + (0#12).signExtend 32 ∧
    Permitted [.read] 4 0x3000 gap ∧
    gap.mem.read ((0x3002#32).toNat + 1) = none ∧ 0x3002#32 = readReg 10 gap + (2#12).signExtend 32 ∧
    Permitted [.read] 2 0x3002 gap ∧
    gap.mem.read ((0x3003#32).toNat + 0) = none ∧ 0x3003#32 = readReg 10 gap + (3#12).signExtend 32 ∧
    Permitted [.read] 1 0x3003 gap ∧
    0x3000#32 = readReg 8 gap + (0#7).setWidth 32 ∧ 0x3000#32 = readReg 2 gap + (0#8).setWidth 32 ∧
    0x3000#32 = readReg 10 gap ∧ Permitted exclusiveReadKinds 4 0x3000 gap :=
  ⟨by decide, by decide, permitted_of (by decide), by decide, by decide, permitted_of (by decide), by decide, by decide,
    permitted_of (by decide), by decide, by decide, by decide, permitted_of (by decide)⟩

/-- The machine of O10 and O11 with an instruction word after the one executed, at 0x104. -/
def nextIs (w : Word) : State :=
  withRegs [(5, 0x2000), (6, 3), (7, 4), (10, 0x2000)] (wideAt 0x100 (imageOf [(0x104, w), (0x2000, 0x2000)]) [.granted] [])

/-- O10, `mul` and `lw`, the first of the loads, before `add x6, x5, x7`, and `mul` before an AMO at the address in x5. -/
theorem witness_DependentSuccessorCostsTwo :
    (∃ t, exec (.mul 5 6 7) (nextIs 0x00728333) = .next t ∧ fetchInstr t = .got (.add 6 5 7)) ∧
    (Instr.lw 5 0 10, 4, 0x2000#32) ∈ loadsFrom 5 10 0 0 0 (nextIs 0x00728333) ∧
    Permitted [.read] 4 0x2000 (nextIs 0x00728333) ∧ HoldsAt 4 0x2000 0x2000 (nextIs 0x00728333) ∧
    (∃ t, exec (.lw 5 0 10) (nextIs 0x00728333) = .next t ∧ fetchInstr t = .got (.add 6 5 7)) ∧
    (∃ t, exec (.mul 5 6 7) (nextIs 0x0062A32F) = .next t ∧ fetchInstr t = .got (.amoaddW 6 6 5 false false)) ∧
    5 ∈ stageTwo (.amoaddW 6 6 5 false false) ∧ 6 ∈ openStage (.amoaddW 6 6 5 false false) :=
  ⟨next_fetching_of (by decide), by decide, permitted_of (by decide), holdsAt_of (by decide),
    next_fetching_of (by decide), next_fetching_of (by decide), by decide, by decide⟩

/-- O10, `c.lwsp x5, 0(x2)` before `add x6, x5, x7` two bytes on, and `lb x5, 3(x10)` before it four bytes on. -/
theorem witness_DependentSuccessorCostsTwo_loads :
    (let s := withRegs [(2, 0x2000)] (wideAt 0x100 (imageOf [(0x102, 0x00728333), (0x2000, 0x77)]) [] []);
      (Instr.cLwsp 5 0, 4, 0x2000#32) ∈ loadsFrom 5 10 3 0 0 s ∧ Permitted [.read] 4 0x2000 s ∧
        HoldsAt 4 0x2000 0x77 s ∧ ∃ t, exec (.cLwsp 5 0) s = .next t ∧ fetchInstr t = .got (.add 6 5 7)) ∧
    (let s := nextIs 0x00728333;
      (Instr.lb 5 3 10, 1, 0x2003#32) ∈ loadsFrom 5 10 3 0 0 s ∧ Permitted [.read] 1 0x2003 s ∧
        HoldsAt 1 0x2003 0x00 s ∧ ∃ t, exec (.lb 5 3 10) s = .next t ∧ fetchInstr t = .got (.add 6 5 7)) :=
  ⟨⟨by decide, permitted_of (by decide), holdsAt_of (by decide), next_fetching_of (by decide)⟩,
    by decide, permitted_of (by decide), holdsAt_of (by decide), next_fetching_of (by decide)⟩

/-- O10, `lr.w` before an exclusive instruction and `sc.w` before another. -/
theorem witness_DependentSuccessorCostsTwo_exclusive :
    Permitted exclusiveReadKinds 4 (readReg 10 (nextIs 0x1875232F)) (nextIs 0x1875232F) ∧
    HoldsAt 4 (readReg 10 (nextIs 0x1875232F)) 0x2000 (nextIs 0x1875232F) ∧
    (∃ t, exec (.lrW 5 10 false false) (nextIs 0x1875232F) = .next t ∧
      fetchInstr t = .got (.scW 6 7 10 false false)) ∧
    ScRaisesNothing (readReg 10 (nextIs 0x00030863)) (nextIs 0x00030863) ∧
    (∃ t, exec (.scW 6 5 10 false false) (nextIs 0x00030863) = .next t ∧ fetchInstr t = .got (.beq 6 0 16#13)) :=
  ⟨permitted_of (by decide), holdsAt_of (by decide), next_fetching_of (by decide), ⟨by decide, .inl (by decide)⟩,
    next_fetching_of (by decide)⟩

/-- O11, the two premises on the access (each machine has the same data and map), and the five sequences that start with
a load or `lr.w`, by the second word. -/
theorem witness_SourceDependencyExamples :
    Permitted exclusiveReadKinds 4 (readReg 10 (nextIs 0x1875232F)) (nextIs 0x1875232F) ∧
    HoldsAt 4 (readReg 10 (nextIs 0x1875232F)) 0x2000 (nextIs 0x1875232F) ∧
    (∃ t, exec (.lw 5 0 10) (nextIs 0x00728333) = .next t ∧ fetchInstr t = .got (.add 6 5 7)) ∧
    (∃ t, exec (.lw 5 0 10) (nextIs 0x0055A023) = .next t ∧ fetchInstr t = .got (.sw 5 0 11)) ∧
    (∃ t, exec (.lw 5 0 10) (nextIs 0x0002A303) = .next t ∧ fetchInstr t = .got (.lw 6 0 5)) ∧
    (∃ t, exec (.lw 5 0 10) (nextIs 0x00838333) = .next t ∧ fetchInstr t = .got (.add 6 7 8)) ∧
    (∃ t, exec (.lrW 5 10 false false) (nextIs 0x1875232F) = .next t ∧
      fetchInstr t = .got (.scW 6 7 10 false false)) :=
  ⟨permitted_of (by decide), holdsAt_of (by decide), next_fetching_of (by decide), next_fetching_of (by decide),
    next_fetching_of (by decide), next_fetching_of (by decide), next_fetching_of (by decide)⟩

/-- O11, the sixth sequence: `sc.w x6, x5, (x10)` before `beq x6, x0, +16`, with the local monitor clear, with its write
lost, and with its write tried and ok. -/
theorem witness_SourceDependencyExamples_conditional :
    let s := nextIs 0x00030863; let u := (s.setLm true).setMonitorWrites [.lost]
    let v := (s.setLm true).setMonitorWrites [.ok];
    (ScRaisesNothing (readReg 10 s) s ∧ ∃ t, exec (.scW 6 5 10 false false) s = .next t ∧
      fetchInstr t = .got (.beq 6 0 16#13)) ∧
    (ScRaisesNothing (readReg 10 u) u ∧ ∃ t, exec (.scW 6 5 10 false false) u = .next t ∧
      fetchInstr t = .got (.beq 6 0 16#13)) ∧
    (ScRaisesNothing (readReg 10 v) v ∧ ∃ t, exec (.scW 6 5 10 false false) v = .next t ∧
      fetchInstr t = .got (.beq 6 0 16#13)) :=
  ⟨⟨⟨by decide, .inl (by decide)⟩, next_fetching_of (by decide)⟩,
    ⟨⟨by decide, .inr (.inl ⟨[], by decide⟩)⟩, next_fetching_of (by decide)⟩,
    ⟨⟨by decide, .inr (.inr (permitted_of (by decide)))⟩, next_fetching_of (by decide)⟩⟩

/-- O12, every clause, at the top of the address space and at the largest 16-bit displacements. -/
theorem witness_StoresWriteTheirBytes :
    0xFFFFFFFC#32 = readReg 11 top + (0x800#12).signExtend 32 ∧ Permitted [.write] 4 0xFFFFFFFC top ∧
    0xFFFFFFFE#32 = readReg 10 top + (2#12).signExtend 32 ∧ Permitted [.write] 2 0xFFFFFFFE top ∧
    0xFFFFFFFF#32 = readReg 10 top + (3#12).signExtend 32 ∧ Permitted [.write] 1 0xFFFFFFFF top ∧
    0x207C#32 = readReg 8 top + (124#7).setWidth 32 ∧ Permitted [.write] 4 0x207C top ∧
    0x20FC#32 = readReg 2 top + (252#8).setWidth 32 ∧ Permitted [.write] 4 0x20FC top :=
  ⟨by decide, permitted_of (by decide), by decide, permitted_of (by decide), by decide, permitted_of (by decide),
    by decide, permitted_of (by decide), by decide, permitted_of (by decide)⟩

/-- O14, every clause, at the top of the address space. -/
theorem witness_MixedWidthLittleEndian :
    Permitted [.read] 4 0xFFFFFFFC top ∧
    top.mem.readBytes 4 (0xFFFFFFFC#32).toNat = some [0xBB#8, 0xAA#8, 0x99#8, 0x88#8] ∧
    Permitted [.read] 2 0xFFFFFFFE top ∧ top.mem.readBytes 2 (0xFFFFFFFE#32).toNat = some [0x99#8, 0x88#8] ∧
    (∃ t, memWrite [.write] 4 0xFFFFFFFC 0x11223344 top = .ok t ∧ backed .read 1 (0xFFFFFFFC + 1) t = true ∧
      backed .read 2 (0xFFFFFFFC + 2) t = true) ∧
    (∃ t, memWrite [.write] 2 0xFFFFFFFE 0x11223344 top = .ok t) :=
  ⟨permitted_of (by decide), by decide, permitted_of (by decide), by decide, ⟨_, rfl, by decide, by decide⟩, ⟨_, rfl⟩⟩

/-- O17, the last clauses' operand. -/
theorem witness_SignCombinationTable : (0x80000000#32 : Word) ≠ 0 := by decide

/-- O18, granted and refused. -/
theorem witness_LoadReservedReadsAndReserves :
    Permitted exclusiveReadKinds 4 (readReg 10 top) top ∧ HoldsAt 4 (readReg 10 top) 0x8899AABB top ∧
    (top.setMonitorReads [.granted]).monitorReads = .granted :: [] ∧
    (top.setMonitorReads [.refused]).monitorReads = .refused :: [] :=
  ⟨permitted_of (by decide), holdsAt_of (by decide), by decide, by decide⟩

/-- O19, its three clauses: monitor clear (at an address the map does not back), lost, and ok. -/
theorem witness_StoreConditionalOutcomes :
    (readReg 10 narrow).toNat % 4 = 0 ∧ narrow.lm = false ∧
    (let s := (top.setLm true).setMonitorWrites [.lost];
      (readReg 10 s).toNat % 4 = 0 ∧ s.lm = true ∧ s.monitorWrites = .lost :: []) ∧
    (let s := (top.setLm true).setMonitorWrites [.ok];
      (readReg 10 s).toNat % 4 = 0 ∧ s.lm = true ∧ s.monitorWrites = .ok :: [] ∧
        Permitted exclusiveWriteKinds 4 (readReg 10 s) s) :=
  ⟨by decide, by decide, by decide, by decide, by decide, by decide, permitted_of (by decide)⟩

/-- The top machine with answers for the AMOs. -/
def asked (reads : List ReadAnswer) (writes : List WriteAnswer) : State :=
  (top.setMonitorReads reads).setMonitorWrites writes

/-- O20, with no retry and with two. -/
theorem witness_AmoResultsAfterRetries :
    0xFFFFFFFC#32 = readReg 10 (asked [] []) ∧ 7#32 = readReg 1 (asked [] []) ∧
    Permitted (exclusiveReadKinds ++ exclusiveWriteKinds) 4 0xFFFFFFFC (asked [] []) ∧
    HoldsAt 4 0xFFFFFFFC 0x8899AABB (asked [] []) ∧
    (asked [.granted] [.ok]).monitorReads = List.replicate (0 + 1) ReadAnswer.granted ++ [] ∧
    (asked [.granted] [.ok]).monitorWrites = List.replicate 0 WriteAnswer.lost ++ WriteAnswer.ok :: [] ∧
    (asked [.granted, .granted, .granted] [.lost, .lost, .ok]).monitorReads =
      List.replicate (2 + 1) ReadAnswer.granted ++ [] ∧
    (asked [.granted, .granted, .granted] [.lost, .lost, .ok]).monitorWrites =
      List.replicate 2 WriteAnswer.lost ++ WriteAnswer.ok :: [] :=
  ⟨by decide, by decide, permitted_of (by decide), holdsAt_of (by decide), by decide, by decide, by decide, by decide⟩

/-- A map that backs reads and exclusive reads only. -/
def readOnly : State := (asked [.granted] [.ok]).setMemMap [⟨0, 2 ^ 32, [.read, .exclusiveRead], [4]⟩]

/-- O21, the third clause after one lost attempt and the fourth (the first two: `witness_misaligned`,
`witness_unbacked`). -/
theorem witness_AmoTraps :
    Instr.amoaddW 5 6 10 false false ∈ amoInstrs 5 6 10 false false ∧
    Permitted exclusiveReadKinds 4 (readReg 10 (asked [] [])) (asked [] []) ∧
    HoldsAt 4 (readReg 10 (asked [] [])) 0x8899AABB (asked [] []) ∧
    (asked [.granted, .refused] [.lost]).monitorReads = List.replicate 1 ReadAnswer.granted ++ ReadAnswer.refused :: [] ∧
    (asked [.granted, .refused] [.lost]).monitorWrites = List.replicate 1 WriteAnswer.lost ++ [] ∧
    Permitted exclusiveReadKinds 4 (readReg 10 readOnly) readOnly ∧
    HoldsAt 4 (readReg 10 readOnly) 0x8899AABB readOnly ∧ Unbacked exclusiveWriteKinds 4 (readReg 10 readOnly) readOnly ∧
    readOnly.monitorReads = .granted :: [] ∧ readOnly.monitorWrites = .ok :: [] :=
  ⟨by decide, permitted_of (by decide), holdsAt_of (by decide), by decide, by decide, permitted_of (by decide),
    holdsAt_of (by decide), unbacked_of .write (by decide), by decide, by decide⟩

theorem amoOperation_mem {rd rs2 rs1 : Reg} {aq rl : Bool} (k : Fin 9) :
    (amoOperations rd rs2 rs1 aq rl)[k.val]'k.isLt ∈ amoOperations rd rs2 rs1 aq rl := List.getElem_mem _

/-- O22, the last of the nine. -/
theorem witness_AmoAllOrNothing :
    0xFFFFFFFC#32 = readReg 10 (asked [.granted] [.ok]) ∧
    (∃ e ∈ amoOperations 5 6 10 false false, e.1 = .amomaxuW 5 6 10 false false ∧
      ∃ t, exec e.1 (asked [.granted] [.ok]) = .next t) :=
  ⟨by decide, _, amoOperation_mem 8, rfl, next_of (by decide)⟩

/-- O23 and O24. -/
theorem witness_csr_in_table : (0x300#12, Csr.mstatus) ∈ csrTable ∧ (0x343#12, Csr.mtval) ∈ csrTable := by decide

/-- O25: the least CSR number, one between two of the six, and `cycle`. -/
theorem witness_UnknownCsrRefused :
    0#12 ∉ [0x300#12, 0x305#12, 0x340#12, 0x341#12, 0x342#12, 0x343#12] ∧
    0x304#12 ∉ [0x300#12, 0x305#12, 0x340#12, 0x341#12, 0x342#12, 0x343#12] ∧
    0xC00#12 ∉ [0x300#12, 0x305#12, 0x340#12, 0x341#12, 0x342#12, 0x343#12] := by decide

/-- O26. -/
theorem witness_CsrWritesReadBack : 11#32 ∈ [0#32, 1#32, 2#32, 3#32, 4#32, 5#32, 6#32, 7#32, 11#32] ∧
    8#32 ∉ [0#32, 1#32, 2#32, 3#32, 4#32, 5#32, 6#32, 7#32, 11#32] := by decide

/-- O31, at the highest even pc. -/
theorem witness_TrapThenReturnRestores : (top.setPc 0xFFFFFFFE).pc.getLsbD 0 = false := by decide

/-- O38, both clauses at the highest index; O39 and O40 at both ends. -/
theorem witness_bit_indices :
    (let s := writeReg 5 0xFFFFFFFF top; 0x80000000#32 = readReg 31 s ∧ 31 = (readReg 5 s).toNat % 32) ∧
    0x80000000#32 = readReg 31 top ∧ 31 = (31#5).toNat ∧
    0 < 32 ∧ 31 < 32 ∧ 0x80000000#32 = 1#32 <<< 31 ∧ (7#32 : Word) ≠ 0 := by decide

/-- O42: a form that completes, and one whose load finds no value. -/
theorem witness_CompressedIsItsExpansion :
    encodeParcels (.cJal 0x7FE#12) = .half 0x2FFD ∧ (Instr.cJal 0x7FE#12).wellFormed = true ∧
    (∃ t, exec (.cJal 0x7FE#12) top = .next t) ∧ encodeParcels (.cLw 9 4#7 8) = .half 0x4044 ∧
    (Instr.cLw 9 4#7 8).wellFormed = true ∧ (∃ f, exec (.cLw 9 4#7 8) gap = .fault f) :=
  ⟨by decide, by decide, next_of (by decide), by decide, by decide, fault_of (by decide)⟩

/-- A machine that is about to fetch these bytes. -/
def fetching (pc : Word) (bytes : List Byte) : State :=
  wideAt pc (Memory.writeBytes [] pc.toNat bytes) [] []

theorem codeAt_of {bs : List Byte} {s : State}
    (h : (decide (s.pc.toNat + bs.length ≤ 2 ^ 32) && (List.finRange bs.length).all fun i =>
      s.mem.read (s.pc.toNat + i) == some bs[i] && (i.val % 2 != 0 || backed .fetch 2 (s.pc + BitVec.ofNat 32 i) s) &&
        !s.storedSinceFenceI.contains (s.pc.toNat + i)) = true) : CodeAt bs s := by
  simp only [Bool.and_eq_true, decide_eq_true_eq, List.all_eq_true, List.mem_finRange, forall_const, beq_iff_eq,
    Bool.or_eq_true, bne_iff_ne, Bool.not_eq_true', List.contains_eq_mem, decide_eq_false_iff_not] at h
  exact ⟨h.1, fun i hi => (h.2 ⟨i, hi⟩).1.1, fun i hi he => ((h.2 ⟨i, hi⟩).1.2).resolve_left (fun hn => hn he),
    fun i hi => (h.2 ⟨i, hi⟩).2⟩

/-- O43: `c.nop` in the last two bytes of the address space, and `add x3, x1, x2` in its last four. -/
theorem witness_StepRunsDecodedInstruction :
    CodeAt [0x01, 0x00] (fetching 0xFFFFFFFE [0x01, 0x00]) ∧ decode [0x01, 0x00] = .ok (.cNop 0, []) ∧
    CodeAt [0xB3, 0x81, 0x20, 0x00] (fetching 0xFFFFFFFC [0xB3, 0x81, 0x20, 0x00]) ∧
    decode [0xB3, 0x81, 0x20, 0x00] = .ok (.add 3 1 2, []) :=
  ⟨codeAt_of (by decide), by decide, codeAt_of (by decide), by decide⟩

/-- O44: the all-zero parcel in the last two bytes, and the all-ones word. -/
theorem witness_IllegalEncodingTraps :
    CodeAt [0x00, 0x00] (fetching 0xFFFFFFFE [0x00, 0x00]) ∧ isLong (parcelOf 0x00 0x00) = false ∧
    (∀ r ∈ rows16, r.hits (parcelOf 0x00 0x00) = false) ∧
    CodeAt [0xFF, 0xFF, 0xFF, 0xFF] (fetching 0x100 [0xFF, 0xFF, 0xFF, 0xFF]) ∧ isLong (parcelOf 0xFF 0xFF) = true ∧
    (∀ r ∈ rows32, r.hits (wordOf (parcelOf 0xFF 0xFF) (parcelOf 0xFF 0xFF)) = false) :=
  ⟨codeAt_of (by decide), by decide, by decide, codeAt_of (by decide), by decide, by decide⟩

/-- A 32-bit instruction whose second parcel is outside the map. -/
def halfBacked : State := (fetching 0x100 [0xB3, 0x81]).setMemMap [⟨0x100, 2, [.fetch], [2]⟩]

/-- O45, both clauses. -/
theorem witness_FetchAccessFaultTraps :
    backed .fetch 2 (narrow.setPc 0x10000).pc (narrow.setPc 0x10000) = false ∧
    CodeAt [0xB3, 0x81] halfBacked ∧ isLong (parcelOf 0xB3 0x81) = true ∧ halfBacked.pc ≠ 0xFFFFFFFE#32 ∧
    backed .fetch 2 (halfBacked.pc + 2) halfBacked = false :=
  ⟨by decide, codeAt_of (by decide), by decide, by decide, by decide⟩

/-- O46, every clause: the first parcel's last byte, the straddle, the second parcel's first and last bytes. -/
theorem witness_FetchRefusals :
    (let s := (fetching 0x100 [0x01, 0x00]).setStoredSinceFenceI [0x101];
      backed .fetch 2 s.pc s = true ∧ s.pc.toNat + 1 ∈ s.storedSinceFenceI) ∧
    CodeAt [0xB3, 0x81] (fetching 0xFFFFFFFE [0xB3, 0x81]) ∧ isLong (parcelOf 0xB3 0x81) = true ∧
    (let s := (fetching 0x100 [0xB3, 0x81]).setStoredSinceFenceI [0x102, 0x103];
      CodeAt [0xB3, 0x81] s ∧ s.pc ≠ 0xFFFFFFFE#32 ∧ backed .fetch 2 (s.pc + 2) s = true ∧
        (s.pc + 2).toNat ∈ s.storedSinceFenceI ∧ (s.pc + 2).toNat + 1 ∈ s.storedSinceFenceI) :=
  ⟨by decide, codeAt_of (by decide), by decide, codeAt_of (by decide), by decide, by decide, by decide, by decide⟩

/-- O46, the clauses about a byte that holds no value: the second byte of the first parcel, and of the second. -/
theorem witness_FetchRefusals_noValue :
    (let s := fetching 0x100 [0x01];
      backed .fetch 2 s.pc s = true ∧ s.pc.toNat ∉ s.storedSinceFenceI ∧ s.pc.toNat + 1 ∉ s.storedSinceFenceI ∧
        s.mem.read (s.pc.toNat + 1) = none) ∧
    (let s := fetching 0x100 [0xB3, 0x81, 0x20];
      CodeAt [0xB3, 0x81] s ∧ isLong (parcelOf 0xB3 0x81) = true ∧ s.pc ≠ 0xFFFFFFFE#32 ∧
        backed .fetch 2 (s.pc + 2) s = true ∧ (s.pc + 2).toNat ∉ s.storedSinceFenceI ∧
        (s.pc + 2).toNat + 1 ∉ s.storedSinceFenceI ∧ s.mem.read ((s.pc + 2).toNat + 1) = none) :=
  ⟨by decide, codeAt_of (by decide), by decide, by decide, by decide, by decide, by decide, by decide⟩

/-- O48: a row that hits a word, and one that hits a parcel. -/
theorem witness_RowsAreDisjoint :
    (∃ r ∈ rows32, r.hits 0x30200073 = true) ∧ (∃ r ∈ rows16, r.hits 0x9002 = true) :=
  ⟨List.any_eq_true.mp (by decide), List.any_eq_true.mp (by decide)⟩

/-- O49, a parcel for each clause's pattern, in the clauses' order (the two fixed parcels need none). -/
theorem witness_ReservedParcelsIllegal :
    ((0x2000#16).extractLsb 1 0 = 0#2 ∧ (0x2000#16).extractLsb 15 13 ∈ [1#3, 3#3, 4#3, 5#3, 7#3]) ∧
    ((0x001C#16).extractLsb 1 0 = 0#2 ∧ (0x001C#16).extractLsb 15 13 = 0#3 ∧ (0x001C#16).extractLsb 12 5 = 0#8) ∧
    ((0x6101#16).extractLsb 1 0 = 1#2 ∧ (0x6101#16).extractLsb 15 13 = 3#3 ∧ halfImm6 0x6101#16 = 0) ∧
    ((0x9401#16).extractLsb 1 0 = 1#2 ∧ (0x9401#16).extractLsb 15 13 = 4#3 ∧
      (0x9401#16).extractLsb 11 10 ∈ [0#2, 1#2] ∧ (0x9401#16).getLsbD 12 = true) ∧
    ((0x1002#16).extractLsb 1 0 = 2#2 ∧ (0x1002#16).extractLsb 15 13 = 0#3 ∧ (0x1002#16).getLsbD 12 = true) ∧
    ((0x9C01#16).extractLsb 1 0 = 1#2 ∧ (0x9C01#16).extractLsb 15 10 = 0x27#6) ∧
    ((0x4002#16).extractLsb 1 0 = 2#2 ∧ (0x4002#16).extractLsb 15 13 = 2#3 ∧ halfReg 0x4002#16 = 0) ∧
    ((0x2002#16).extractLsb 1 0 = 2#2 ∧ (0x2002#16).extractLsb 15 13 ∈ [1#3, 3#3, 5#3, 7#3]) ∧
    ((0x0005#16).extractLsb 1 0 = 1#2 ∧ (0x0005#16).extractLsb 15 13 = 0#3 ∧ halfReg 0x0005#16 = 0) ∧
    ((0x0281#16).extractLsb 1 0 = 1#2 ∧ (0x0281#16).extractLsb 15 13 = 0#3 ∧ halfReg 0x0281#16 ≠ 0) ∧
    ((0x4015#16).extractLsb 1 0 = 1#2 ∧ (0x4015#16).extractLsb 15 13 = 2#3) ∧
    ((0x6005#16).extractLsb 1 0 = 1#2 ∧ (0x6005#16).extractLsb 15 13 = 3#3 ∧ halfReg 0x6005#16 ≠ 2 ∧
      halfImm6 0x6005#16 ≠ 0) ∧
    ((0x802E#16).extractLsb 1 0 = 2#2 ∧ (0x802E#16).extractLsb 15 12 = 8#4 ∧ halfRs2 0x802E#16 ≠ 0) ∧
    ((0x902E#16).extractLsb 1 0 = 2#2 ∧ (0x902E#16).extractLsb 15 12 = 9#4 ∧ halfRs2 0x902E#16 ≠ 0) ∧
    ((0x0002#16).extractLsb 1 0 = 2#2 ∧ (0x0002#16).extractLsb 15 12 = 0#4) ∧
    ((0x8001#16).extractLsb 1 0 = 1#2 ∧ (0x8001#16).extractLsb 15 10 = 0x20#6) ∧
    ((0x8401#16).extractLsb 1 0 = 1#2 ∧ (0x8401#16).extractLsb 15 10 = 0x21#6) := by decide

/-- O50. -/
theorem witness_DecodeInvertsEncode : (Instr.cAddi16sp 0x200#10).wellFormed = true := by decide

/-- O51. -/
theorem witness_EncodeInvertsDecode : decode [0x01, 0x00, 0xAA] = .ok (.cNop 0, [0xAA]) := by decide

/-- O52: a state with a stored byte, about to store another. -/
theorem witness_StepKeepsInvariant :
    let s := ((withRegs [(5, 0x11223344), (10, 0x2000)] (wideAt 0x100 (imageOf [(0x100, 0x00552023), (0x3000, 9)]) []
      [])).setMepc 0x124).setStoredSinceFenceI [0x3000];
    s.Inv ∧ ∃ t, step s = .next t :=
  ⟨⟨by decide, by decide, by decide, by decide, by decide⟩, next_of (by decide)⟩

/-- O53: a launch with a reset vector at the top, a vectored `MTVEC_INIT` and a loaded byte. -/
theorem witness_LaunchStateAndInvariant :
    LaunchOk ⟨0xFFFFFFFE, 0x41, [Config.wholeSpace], [(0xFFFFFFFF, 0)], [], []⟩ := ⟨by decide, by decide, by decide⟩

/-- O54. -/
theorem witness_OnlyDestinationRegisterChanges :
    (∃ t, exec (.cJalr 5) top = .next t) ∧ destination (.cJalr 5) ≠ some 5 := ⟨next_of (by decide), by decide⟩

/-- O55: an instruction that completes, one that faults, one that is refused. -/
theorem witness_UnnamedRegistersAreUnread :
    (31 : Reg) ∉ sources (.amoaddW 5 6 10 false false) ∧ destination (.amoaddW 5 6 10 false false) ≠ some 31 ∧
    (∃ t, exec (.amoaddW 5 6 10 false false) (asked [.granted] [.ok]) = .next t) ∧
    (31 : Reg) ∉ sources (.cLwsp 5 0) ∧ destination (.cLwsp 5 0) ≠ some 31 ∧
    (∃ f, exec (.cLwsp 5 0) gap = .fault f) ∧
    (31 : Reg) ∉ sources (.csrrs 5 0xC00 0) ∧ destination (.csrrs 5 0xC00 0) ≠ some 31 ∧
    (∃ r, exec (.csrrs 5 0xC00 0) top = .refused r) :=
  ⟨by decide, by decide, next_of (by decide), by decide, by decide, fault_of (by decide),
    by decide, by decide, refused_of (by decide)⟩

/-- O56: an instruction that stores nothing, and a step that traps at fetch. -/
theorem witness_OnlyStoresChangeMemory :
    (∃ t, exec (.lw 5 0 10) top = .next t) ∧ classOf (.lw 5 0 10) ∉ [.store, .storeConditional, .amo] ∧
    classOf (.lw 5 0 10) ≠ .fenceI ∧
    fetchInstr (narrow.setPc 0x10000) = .raises (.instructionAccessFault 0x10000) ∧
    (∃ t, step (narrow.setPc 0x10000) = .next t) := ⟨next_of (by decide), by decide, by decide, rfl, next_of (by decide)⟩

/-- O57: a load, which may trap, and an `sc.w` that keeps the local monitor set because it traps. -/
theorem witness_SystemStateChangesOnlyByItsInstructions :
    (∃ t, exec (.lw 5 0 10) top = .next t) ∧ classOf (.lw 5 0 10) ∉ [.csr, .mret] ∧ classOf (.lw 5 0 10) ≠ .csr ∧
    classOf (.lw 5 0 10) ∉ [.loadReserved, .storeConditional] ∧
    (∃ t, exec (.scW 6 5 11 false false) (narrow.setLm true) = .next t ∧ t.lm = true) ∧
    classOf (.scW 6 5 11 false false) = .storeConditional :=
  ⟨next_of (by decide), by decide, by decide, by decide, ⟨_, rfl, by decide⟩, by decide⟩

/-- O58: a step that goes on, one that faults (nothing in memory), one that is refused. -/
theorem witness_CycleCountIsUnread :
    (∃ t, step (fetching 0x100 [0x01, 0x00]) = .next t) ∧ (∃ f, step State.reset = .fault f) ∧
    (∃ r, step ((fetching 0x100 [0x01, 0x00]).setStoredSinceFenceI [0x100]) = .refused r) :=
  ⟨next_of (by decide), fault_of (by decide), refused_of (by decide)⟩

/-- O59: a refusal, a fault, and an instruction of the rest. -/
theorem witness_InstructionsNeverStopOtherwise :
    (∃ r, exec (.csrrs 5 0xC00 0) top = .refused r) ∧ (∃ f, exec (.cLwsp 5 0) gap = .fault f) ∧
    classOf (.scW 6 5 10 false false) ∉ [.load, .loadReserved, .amo, .csr] :=
  ⟨refused_of (by decide), fault_of (by decide), by decide⟩

end Sys2Proof.Tests
end

section
/-! PROOFS. The cycle count is unread (R14). An operation is followed over every count at once: the function from the
count a state starts with to what the operation answers. Every way an operation completes is a charge, of a cost that no
count decides, on a state that carries the count along; that is the one argument, and each shared operation is a
case of it. -/

namespace Sys2Proof.Machine

open Sys2Proof

variable (s : State) (n : Nat)

/-! ## Operations on a state with another count -/

/-- A fetch does not read the count. -/
@[simp] theorem fetchInstr_setCycles : fetchInstr (s.setCycles n) = fetchInstr s := fetchInstr_congr rfl rfl rfl rfl

@[simp] theorem nextInstr_setCycles : nextInstr (s.setCycles n) = nextInstr s := by
  simp only [nextInstr, fetchInstr_setCycles]

@[simp] theorem readReg_setCycles (r : Reg) : readReg r (s.setCycles n) = readReg r s := rfl

@[simp] theorem memRead_setCycles (by' : AccessBy) (ks : List AccessKind) (w : Nat) (addr : Word) :
    memRead by' ks w addr (s.setCycles n) = memRead by' ks w addr s := rfl

/-- A write to memory raises with any count what it raises with one, and else carries the count along. -/
theorem memWrite_setCycles (ks : List AccessKind) (w : Nat) (addr v : Word) :
    memWrite ks w addr v (s.setCycles n) = (memWrite ks w addr v s).map (State.setCycles n) := by
  cases ha : naturallyAligned w addr with
  | false => rw [memWrite_misaligned ha, memWrite_misaligned ha]; rfl
  | true =>
    cases hb : backedAll ks w addr s with
    | false => rw [memWrite_unbacked (s := s) ha hb, memWrite_unbacked (s := s.setCycles n) ha hb]; rfl
    | true => rw [memWrite_ok (s := s) ha hb, memWrite_ok (s := s.setCycles n) ha hb]; rfl

@[simp] theorem readAnswer_setCycles : readAnswer (s.setCycles n) = readAnswer s := rfl

@[simp] theorem writeAnswer_setCycles : writeAnswer (s.setCycles n) = writeAnswer s := rfl

@[simp] theorem afterReadAnswer_setCycles :
    afterReadAnswer (s.setCycles n) = (afterReadAnswer s).setCycles n := rfl

@[simp] theorem afterWriteAnswer_setCycles :
    afterWriteAnswer (s.setCycles n) = (afterWriteAnswer s).setCycles n := rfl

@[simp] theorem csrValue_setCycles (c : Csr) : csrValue c (s.setCycles n) = csrValue c s := by cases c <;> rfl

@[simp] theorem afterCsrRead_setCycles (c : Csr) :
    afterCsrRead c (s.setCycles n) = (afterCsrRead c s).setCycles n := rfl

@[simp] theorem csrWrite_setCycles (c : Csr) (v : Word) :
    csrWrite c v (s.setCycles n) = (csrWrite c v s).setCycles n := by
  cases c <;> rfl

/-! ## What is followed over every count -/

/-- One state for every count, but for the count itself. -/
def CarriesCount (u : Nat → State) : Prop := ∀ n, u n = (u 0).setCycles n

/-- One state for every count, but for the count itself, which the same number was added to. -/
def AddsToCount (u : Nat → State) : Prop := ∃ (t : State) (k : Nat), ∀ n, u n = t.setCycles (n + k)

/-- One answer for every count: a next state with the same number added to the count, or one fault, or one refusal. -/
inductive CountUnread (answer : Nat → Result) : Prop where
  | next (t : State) (k : Nat) (h : ∀ n, answer n = .next (t.setCycles (n + k)))
  | fault (f : Fault) (h : ∀ n, answer n = .fault f)
  | refused (r : Refusal) (h : ∀ n, answer n = .refused r)

variable {s n}

theorem CarriesCount.addsToCount {u : Nat → State} (hu : CarriesCount u) : AddsToCount u := ⟨u 0, 0, hu⟩

/-- With a count that starts later, the same number is still added. -/
theorem AddsToCount.later {u : Nat → State} (hu : AddsToCount u) (d : Nat) : AddsToCount fun n => u (n + d) := by
  obtain ⟨t, k, h⟩ := hu
  exact ⟨t, d + k, fun n => (h (n + d)).trans (by rw [Nat.add_assoc])⟩

theorem AddsToCount.next {u : Nat → State} (hu : AddsToCount u) : CountUnread fun n => .next (u n) := by
  obtain ⟨t, k, h⟩ := hu
  exact .next t k fun n => by rw [h]

/-- A charge adds a number to the count when no count decides the cost: it is the cost's for the values drawn. -/
theorem charge_addsToCount {c : Nat → Cost} {u : Nat → State} (hc : ∀ n, c n = c 0) (hu : CarriesCount u) :
    AddsToCount fun n => charge (c n) (u n) :=
  ⟨charge (c 0) (u 0), (c 0).cycles (u 0).draws, fun n => by simp only [hc n, hu n]; rfl⟩

/-- So it does when the cost looks at the instruction executed next (R412, R413): that is the same for every count. -/
theorem charge_nextInstr_addsToCount (cost : Option Instr → Cost) {u : Nat → State} (hu : CarriesCount u) :
    AddsToCount fun n => charge (cost (nextInstr (u n))) (u n) :=
  charge_addsToCount (fun n => by rw [hu n, nextInstr_setCycles]) hu

/-- A trap is a charge on the state at the handler (R370). -/
theorem takeTrap_addsToCount (e : Exception) (s : State) : AddsToCount fun n => takeTrap e (s.setCycles n) :=
  charge_addsToCount (fun _ => rfl) fun _ => rfl

/-- An operand that no count decides may be taken for a constant. -/
theorem CountUnread.of_const {α : Type} {m : α → Nat → Result} {v : Nat → α} (hv : ∀ n, v n = v 0)
    (h : CountUnread (m (v 0))) : CountUnread fun n => m (v n) n := by
  rwa [show (fun n => m (v n) n) = m (v 0) from funext fun n => by rw [hv n]]

/-! ## The shared operations -/

theorem writeBack_countUnread {ilen : Word} {c : Nat → Cost} {rd : Reg} {v : Nat → Word} (hc : ∀ n, c n = c 0)
    (hv : ∀ n, v n = v 0) : CountUnread fun n => writeBack ilen (c n) rd (v n) (s.setCycles n) :=
  (charge_addsToCount hc fun n => by rw [hv n]; rfl).next

theorem compute_countUnread {ilen : Word} {rd : Reg} {v : Nat → Word} (hv : ∀ n, v n = v 0) :
    CountUnread fun n => compute ilen rd (v n) (s.setCycles n) := writeBack_countUnread (fun _ => rfl) hv

theorem multiply_countUnread {rd : Reg} {v : Nat → Word} (hv : ∀ n, v n = v 0) :
    CountUnread fun n => multiply rd (v n) (s.setCycles n) :=
  (charge_nextInstr_addsToCount (dependencyCost rd) fun n => by rw [hv n]; rfl).next

theorem jump_countUnread {ilen : Word} {rd : Reg} {target : Nat → Word} (ht : ∀ n, target n = target 0) :
    CountUnread fun n => jump ilen rd (target n) (s.setCycles n) :=
  (charge_addsToCount (fun n => by rw [ht n]; rfl) fun n => by rw [ht n]; rfl).next

theorem branch_countUnread {ilen : Word} {taken : Nat → Bool} {target : Nat → Word} (hb : ∀ n, taken n = taken 0)
    (ht : ∀ n, target n = target 0) : CountUnread fun n => branch ilen (taken n) (target n) (s.setCycles n) := by
  refine .of_const (m := fun b n => branch ilen b (target n) (s.setCycles n)) hb ?_
  cases taken 0 with
  | true => exact (charge_addsToCount (fun n => by rw [ht n]; rfl) fun n => by rw [ht n]; rfl).next
  | false => exact (charge_addsToCount (fun _ => rfl) fun _ => rfl).next

theorem loadOp_countUnread {ilen : Word} {w : Nat} {ext : Word → Word} {rd : Reg} {addr : Nat → Word}
    (ha : ∀ n, addr n = addr 0) : CountUnread fun n => loadOp ilen w ext rd (addr n) (s.setCycles n) := by
  refine .of_const (m := fun a n => loadOp ilen w ext rd a (s.setCycles n)) ha ?_
  cases hm : memRead .load [.read] w (addr 0) s with
  | value v =>
    simp only [loadOp, memRead_setCycles, hm]
    exact (charge_nextInstr_addsToCount (dependencyCost rd) fun _ => rfl).next
  | raises e =>
    simp only [loadOp, memRead_setCycles, hm]
    exact (takeTrap_addsToCount ..).next
  | faults f => exact .fault f fun _ => loadOp_faults hm

theorem storeOp_countUnread {ilen : Word} {w : Nat} {addr v : Nat → Word} (ha : ∀ n, addr n = addr 0)
    (hv : ∀ n, v n = v 0) : CountUnread fun n => storeOp ilen w (addr n) (v n) (s.setCycles n) := by
  refine .of_const (m := fun a n => storeOp ilen w a (v n) (s.setCycles n)) ha ?_
  refine .of_const (m := fun x n => storeOp ilen w (addr 0) x (s.setCycles n)) hv ?_
  cases hm : memWrite [.write] w (addr 0) (v 0) s with
  | error e =>
    simp only [storeOp, memWrite_setCycles, hm, Except.map]
    exact (takeTrap_addsToCount ..).next
  | ok t =>
    simp only [storeOp, memWrite_setCycles, hm, Except.map]
    exact (charge_addsToCount (fun _ => rfl) fun _ => rfl).next

theorem csrSwap_countUnread {rd : Reg} {csr : BitVec 12} {v : Nat → Word} (hv : ∀ n, v n = v 0) :
    CountUnread fun n => csrSwap rd csr (v n) (s.setCycles n) := by
  refine .of_const (m := fun x n => csrSwap rd csr x (s.setCycles n)) hv ?_
  cases hc : csrOf csr with
  | none => exact .refused _ fun _ => csrSwap_unknown hc
  | some c =>
    by_cases hr : rd = 0
    · subst hr
      simp only [csrSwap_x0 hc, csrWrite_setCycles]
      exact (charge_addsToCount (fun _ => rfl) fun _ => rfl).next
    · simp only [csrSwap_known hc hr, csrValue_setCycles, afterCsrRead_setCycles, csrWrite_setCycles]
      exact (charge_addsToCount (fun _ => rfl) fun _ => rfl).next

theorem csrModify_countUnread {rd : Reg} {csr : BitVec 12} {writes : Bool} {f : Nat → Word → Word}
    (hf : ∀ n, f n = f 0) : CountUnread fun n => csrModify rd csr writes (f n) (s.setCycles n) := by
  refine .of_const (m := fun g n => csrModify rd csr writes g (s.setCycles n)) hf ?_
  cases hc : csrOf csr with
  | none => exact .refused _ fun _ => csrModify_unknown hc
  | some c =>
    simp only [csrModify_known hc, csrValue_setCycles, afterCsrRead_setCycles, csrWrite_setCycles]
    cases writes with
    | true => exact (charge_addsToCount (fun _ => rfl) fun _ => rfl).next
    | false => exact (charge_addsToCount (fun _ => rfl) fun _ => rfl).next

/-! ## Atomics -/

theorem execLrW_countUnread {rd rs1 : Reg} {aq rl : Bool} :
    CountUnread fun n => execLrW rd rs1 aq rl (s.setCycles n) := by
  cases hm : memRead .load exclusiveReadKinds 4 (readReg rs1 s) s with
  | value v =>
    simp only [execLrW, readReg_setCycles, memRead_setCycles, hm]
    exact (charge_nextInstr_addsToCount (exclusiveCost rd) fun _ => rfl).next
  | raises e =>
    simp only [execLrW, readReg_setCycles, memRead_setCycles, hm]
    exact (takeTrap_addsToCount ..).next
  | faults f => exact .fault f fun n => by simp only [execLrW, readReg_setCycles, memRead_setCycles, hm]

theorem scDone_addsToCount (rd : Reg) (code : Word) (s : State) :
    AddsToCount fun n => scDone rd code (s.setCycles n) :=
  charge_nextInstr_addsToCount (exclusiveCost rd) fun _ => rfl

theorem storeConditional_addsToCount (rd : Reg) (addr v : Word) (s : State) :
    AddsToCount fun n => storeConditional rd addr v (s.setCycles n) := by
  simp only [storeConditional, State.setCycles_lm, writeAnswer_setCycles, afterWriteAnswer_setCycles,
    memWrite_setCycles]
  split
  · exact scDone_addsToCount rd 1 s
  · cases writeAnswer s with
    | lost => exact scDone_addsToCount rd 1 _
    | ok =>
      cases memWrite exclusiveWriteKinds 4 addr v (afterWriteAnswer s) with
      | error e => exact takeTrap_addsToCount ..
      | ok t => exact scDone_addsToCount rd 0 t

theorem execScW_countUnread {rd rs2 rs1 : Reg} {aq rl : Bool} :
    CountUnread fun n => execScW rd rs2 rs1 aq rl (s.setCycles n) := by
  cases ha : naturallyAligned 4 (readReg rs1 s) with
  | false =>
    simp only [execScW, readReg_setCycles, ha]
    exact (takeTrap_addsToCount ..).next
  | true =>
    simp only [execScW, readReg_setCycles, ha]
    exact (storeConditional_addsToCount ..).next

/-- One attempt of an AMO adds to the count if what follows a lost attempt does: a lost attempt adds 4 (R415). -/
theorem amoAttempt_addsToCount {op : Word → Word → Word} {rd : Reg} {addr old src : Word} {retry : State → State}
    (hretry : ∀ s : State, AddsToCount fun n => retry (s.setCycles n)) (s : State) :
    AddsToCount fun n => amoAttempt op rd addr old src retry (s.setCycles n) := by
  simp only [amoAttempt, readAnswer_setCycles, afterReadAnswer_setCycles, writeAnswer_setCycles,
    afterWriteAnswer_setCycles, memWrite_setCycles]
  cases readAnswer s with
  | refused => exact takeTrap_addsToCount ..
  | granted =>
    cases writeAnswer (afterReadAnswer s) with
    | lost => exact (hretry (charge (.exactly 4) (afterWriteAnswer (afterReadAnswer s)))).later 4
    | ok =>
      cases memWrite exclusiveWriteKinds 4 addr (op old src) (afterWriteAnswer (afterReadAnswer s)) with
      | error e => exact takeTrap_addsToCount ..
      | ok u => exact charge_addsToCount (fun _ => rfl) fun _ => rfl

theorem amoAttempts_addsToCount (op : Word → Word → Word) (rd : Reg) (addr old src : Word) (m : Nat) (s : State) :
    AddsToCount fun n => amoAttempts op rd addr old src m (s.setCycles n) := by
  induction m generalizing s with
  | zero => exact amoAttempt_addsToCount (fun s => CarriesCount.addsToCount fun _ => rfl) s
  | succ m ih => exact amoAttempt_addsToCount ih s

theorem amoOp_countUnread {op : Word → Word → Word} {rd rs2 rs1 : Reg} :
    CountUnread fun n => amoOp op rd rs2 rs1 (s.setCycles n) := by
  cases hm : memRead .storeAmo exclusiveReadKinds 4 (readReg rs1 s) s with
  | value old =>
    simp only [amoOp, readReg_setCycles, memRead_setCycles, State.setCycles_monitorWrites, hm]
    exact (amoAttempts_addsToCount ..).next
  | raises e =>
    simp only [amoOp, readReg_setCycles, memRead_setCycles, hm]
    exact (takeTrap_addsToCount ..).next
  | faults f => exact .fault f fun n => by simp only [amoOp, readReg_setCycles, memRead_setCycles, hm]

/-! ## Every instruction, and the step -/

/-- No instruction reads the count: each is one of the shared operations, on operands read from registers, the pc and
the encoding. -/
theorem exec_countUnread (i : Instr) (s : State) : CountUnread fun n => exec i (s.setCycles n) := by
  cases i
  case add | sub | slt | sltu | and | or | xor | sll | srl | sra | addi | slti | sltiu | andi | ori | xori | slli | srli
    | srai | lui | auipc => exact compute_countUnread fun _ => rfl
  case sh1add | sh2add | sh3add | andn | clz | cpop | ctz | max | maxu | min | minu | orcB | orn | rev8 | rol | ror
    | rori | sextB | sextH | xnor | zextH | clmul | clmulh | clmulr | bclr | bclri | bext | bexti | binv | binvi
    | bset | bseti => exact compute_countUnread fun _ => rfl
  case cAddi4spn | cNop | cAddi | cLi | cAddi16sp | cLui | cSrli | cSrai | cAndi | cSub | cXor | cOr | cAnd | cSlli
    | cMv | cAdd => exact compute_countUnread fun _ => rfl
  case mul => exact multiply_countUnread fun _ => rfl
  case mulh | mulhsu | mulhu | div | divu | rem | remu => exact writeBack_countUnread (fun _ => rfl) fun _ => rfl
  case jal | jalr | cJal | cJ | cJr | cJalr => exact jump_countUnread fun _ => rfl
  case beq | bne | blt | bge | bltu | bgeu | cBeqz | cBnez => exact branch_countUnread (fun _ => rfl) fun _ => rfl
  case lw | lh | lhu | lb | lbu | cLw | cLwsp => exact loadOp_countUnread fun _ => rfl
  case sw | sh | sb | cSw | cSwsp => exact storeOp_countUnread (fun _ => rfl) fun _ => rfl
  case lrW rd rs1 aq rl => exact execLrW_countUnread (aq := aq) (rl := rl)
  case scW rd rs2 rs1 aq rl => exact execScW_countUnread (aq := aq) (rl := rl)
  case amoswapW | amoaddW | amoxorW | amoandW | amoorW | amominW | amomaxW | amominuW | amomaxuW =>
    exact amoOp_countUnread
  case csrrw | csrrwi => exact csrSwap_countUnread fun _ => rfl
  case csrrc | csrrs | csrrci | csrrsi =>
    simp only [exec] -- the arm is named first, for Lean to find the operand that is a function
    exact csrModify_countUnread fun _ => rfl
  case ecall | ebreak | cEbreak => exact (takeTrap_addsToCount ..).next
  case fence | fenceI | mret | wfi => exact (charge_addsToCount (fun _ => rfl) fun _ => rfl).next

theorem step_countUnread (s : State) : CountUnread fun n => step (s.setCycles n) := by
  simp only [step, fetchInstr_setCycles]
  cases fetchInstr s with
  | raises e => exact (takeTrap_addsToCount ..).next
  | refuses r => exact .refused r fun _ => rfl
  | faults f => exact .fault f fun _ => rfl
  | got i => exact exec_countUnread i s

/-- Settles O58: a step answers one thing for every count, so what it answers with the state's own count says what it
answers with any other. -/
theorem cycleCountIsUnread : Obligations.CycleCountIsUnread := by
  intro s n
  have own : step s = step (s.setCycles s.cycles) := rfl
  rw [own]
  cases step_countUnread s with
  | next t k h =>
    refine ⟨fun t' ht => ?_, fun f hf => ?_, fun r hr => ?_⟩
    · obtain rfl : t.setCycles (s.cycles + k) = t' := Host.Outcome.next.inj ((h _).symm.trans ht)
      refine ⟨Nat.le_add_right .., (h n).trans ?_⟩
      rw [State.setCycles_cycles, Nat.add_sub_cancel_left]; rfl
    · cases (h _).symm.trans hf
    · cases (h _).symm.trans hr
  | fault f h => simp [h]
  | refused r h => simp [h]

end Sys2Proof.Machine
end

section
/-! PROOFS. What an instruction can do to the state, said once for all 127 (R22, R29, R39, R41, R46, R370): it traps; or
it is an AMO that waits on; or it completes, with the side effect of its class, a write to its destination register and
a new pc. What instructions leave unchanged, and the invariant, follow from this. -/

namespace Sys2Proof.Machine

open Sys2Proof

/-! ## Even addresses (R26, R86, R88) -/

theorem add_bit0_false {a b : Word} (ha : a.getLsbD 0 = false) (hb : b.getLsbD 0 = false) :
    (a + b).getLsbD 0 = false := by
  rw [BitVec.getLsbD_add (by decide), ha, hb, BitVec.carry_zero]; rfl

theorem sext_bit0 {n : Nat} (o : BitVec (n + 1)) : (sext o).getLsbD 0 = o.getLsbD 0 := by
  rw [sext, BitVec.getLsbD_signExtend]; simp

/-- Whether the offset of a jump or branch is even; the other instructions have none. -/
def evenOffset : Instr → Bool
  | .jal _ o => !o.getLsbD 0
  | .beq _ _ o | .bne _ _ o | .blt _ _ o | .bge _ _ o | .bltu _ _ o | .bgeu _ _ o => !o.getLsbD 0
  | .cJal o | .cJ o => !o.getLsbD 0
  | .cBeqz _ o | .cBnez _ o => !o.getLsbD 0
  | _ => true

theorem fieldImmB_bit0 (w : Word) : (fieldImmB w)[0] = false := BitVec.getLsbD_append

theorem fieldImmJ_bit0 (w : Word) : (fieldImmJ w)[0] = false := BitVec.getLsbD_append

theorem halfJump_bit0 (h : Half) : (halfJump h)[0] = false := BitVec.getLsbD_append

theorem halfBranch_bit0 (h : Half) : (halfBranch h)[0] = false := BitVec.getLsbD_append

theorem rows32_evenOffset : ∀ r ∈ rows32, ∀ w, evenOffset (r.build w) = true := by
  simp only [rows32, rowsInteger, rowsControl, rowsMemory, rowsM, rowsA, rowsSystem, rowsZbaZbb, rowsZbcZbs,
    List.forall_mem_append, List.forall_mem_cons]
  simp [buildR, buildUnary, buildI, buildShift, buildLoad, buildS, buildB, buildU, buildJ, buildCsr, buildCsrImm,
    buildAtomic, buildLr, buildFence, buildFenceI, evenOffset, fieldImmB_bit0, fieldImmJ_bit0]

theorem rows16_evenOffset : ∀ r ∈ rows16, ∀ h, evenOffset (r.build h) = true := by
  simp only [rows16, rowsQuadrant0, rowsQuadrant1, rowsQuadrant2, List.forall_mem_append, List.forall_mem_cons]
  simp [buildCAddi4spn, buildCLw, buildCSw, buildCNop, buildCAddi, buildCJal, buildCLi, buildCAddi16sp, buildCLui,
    buildCSrli, buildCSrai, buildCAndi, buildCSub, buildCXor, buildCOr, buildCAnd, buildCJ, buildCBeqz, buildCBnez,
    buildCSlli, buildCLwsp, buildCJr, buildCMv, buildCEbreak, buildCJalr, buildCAdd, buildCSwsp, evenOffset,
    halfJump_bit0, halfBranch_bit0]

theorem decode32_evenOffset {w : Word} {i : Instr} (h : decode32 w = some i) : evenOffset i = true := by
  obtain ⟨r, hr, rfl⟩ := Option.map_eq_some_iff.1 h
  exact rows32_evenOffset r (List.mem_of_find?_eq_some hr) w

theorem decode16_evenOffset {x : Half} {i : Instr} (h : decode16 x = some i) : evenOffset i = true := by
  obtain ⟨r, hr, rfl⟩ := Option.map_eq_some_iff.1 h
  exact rows16_evenOffset r (List.mem_of_find?_eq_some hr) x

/-- What the decoder answers is an instruction of one of the two tables. -/
theorem decode_ok {bs rest : List Byte} {i : Instr} (h : decode bs = .ok (i, rest)) :
    (∃ w, decode32 w = some i) ∨ ∃ x, decode16 x = some i := by
  simp only [decode] at h
  repeat' split at h
  all_goals cases h
  · exact .inl ⟨_, ‹_›⟩
  · exact .inr ⟨_, ‹_›⟩

theorem fetchInstr_evenOffset {s : State} {i : Instr} (h : fetchInstr s = .got i) : evenOffset i = true := by
  obtain ⟨_, _, -, hd⟩ := fetchInstr_got h
  exact (decode_ok hd).elim (fun ⟨_, hw⟩ => decode32_evenOffset hw) fun ⟨_, hx⟩ => decode16_evenOffset hx

/-! ## What an instruction can do -/

/-- Nothing changed but what asking the global monitor changes: its answers, the values drawn, and the cycle count. -/
structure OnlyAsked (s u : State) : Prop where
  regs : u.regs = s.regs
  pc : u.pc = s.pc
  csrs : KeepsCsrs s u
  lm : u.lm = s.lm
  mem : u.mem = s.mem
  stored : u.storedSinceFenceI = s.storedSinceFenceI
  map : u.memMap = s.memMap

/-- What an instruction of a class may change besides its destination register and the pc. -/
inductive SideEffect (s : State) : InstrClass → State → Prop
  | none (k : InstrClass) {u : State} (asked : OnlyAsked s u) : SideEffect s k u
  | stored {k : InstrClass} {u : State} {n : Nat} {addr : Word} (v : Word) (hk : k = .store ∨ k = .amo)
      (asked : OnlyAsked s u) (fits : addr.toNat + n ≤ 2 ^ 32) : SideEffect s k (storeBytes n addr v u)
  | reserved {u : State} (granted : Bool) (asked : OnlyAsked s u) : SideEffect s .loadReserved (u.setLm granted)
  | released {u : State} (asked : OnlyAsked s u) : SideEffect s .storeConditional (u.setLm false)
  | storedAndReleased {u : State} {n : Nat} {addr : Word} (v : Word) (asked : OnlyAsked s u)
      (fits : addr.toNat + n ≤ 2 ^ 32) : SideEffect s .storeConditional ((storeBytes n addr v u).setLm false)
  | csr {u : State} (c : Csr) (v : Word) (asked : OnlyAsked s u) : SideEffect s .csr (csrWrite c v u)
  | fenceI : SideEffect s .fenceI (s.setStoredSinceFenceI [])
  | mret (m : Mstatus) : SideEffect s .mret (s.setMstatus m)

/-- The codes of the exceptions that instructions raise, fetching them apart (R360). -/
def raisedCodes : List Word := [3, 4, 5, 6, 7, 11]

/-- What an instruction can do from a state: it traps, whether or not it asked the global monitor; as an AMO, it waits
on; or it completes, in some number of cycles. The new pc is even where the old one and `mepc` are. -/
inductive Effect (i : Instr) (s : State) : State → Prop
  | trapped {u : State} {e : Exception} (asked : OnlyAsked s u) (code : e.code ∈ raisedCodes) :
      Effect i s (takeTrap e u)
  | waiting {u : State} (asked : OnlyAsked s u) : Effect i s u
  | completed {u : State} {rd : Reg} {v p : Word} {c : Cost} (side : SideEffect s (classOf i) u)
      (dest : destination i = some rd ∨ rd = 0)
      (even : evenOffset i = true → s.pc.getLsbD 0 = false → s.mepc.getLsbD 0 = false → p.getLsbD 0 = false) :
      Effect i s (charge c ((writeReg rd v u).setPc p))

/-! ### Asking the global monitor -/

variable {s u t : State}

theorem OnlyAsked.refl (s : State) : OnlyAsked s s := ⟨rfl, rfl, ⟨rfl, rfl, rfl, rfl, rfl, rfl⟩, rfl, rfl, rfl, rfl⟩

theorem OnlyAsked.charge (h : OnlyAsked s u) (c : Cost) : OnlyAsked s (charge c u) :=
  { h with csrs := { h.csrs with } }

theorem OnlyAsked.afterReadAnswer (h : OnlyAsked s u) : OnlyAsked s (afterReadAnswer u) :=
  { h with csrs := { h.csrs with } }

theorem OnlyAsked.afterWriteAnswer (h : OnlyAsked s u) : OnlyAsked s (afterWriteAnswer u) :=
  { h with csrs := { h.csrs with } }

theorem OnlyAsked.afterCsrRead (h : OnlyAsked s u) (c : Csr) : OnlyAsked s (afterCsrRead c u) :=
  { h with csrs := { h.csrs with } }

/-! ### What a side effect leaves unchanged -/

namespace SideEffect

variable {k : InstrClass}

theorem regs (h : SideEffect s k u) : u.regs = s.regs := by
  cases h with
  | none _ a | stored _ _ a _ | reserved _ a | released a | storedAndReleased _ a _ => exact a.regs
  | csr c v a => exact (csrWrite_regs _ c v).trans a.regs
  | fenceI | mret => rfl

theorem pc (h : SideEffect s k u) : u.pc = s.pc := by
  cases h with
  | none _ a | stored _ _ a _ | reserved _ a | released a | storedAndReleased _ a _ => exact a.pc
  | csr c v a => exact (csrWrite_pc _ c v).trans a.pc
  | fenceI | mret => rfl

theorem memMap (h : SideEffect s k u) : u.memMap = s.memMap := by
  cases h with
  | none _ a | stored _ _ a _ | reserved _ a | released a | storedAndReleased _ a _ => exact a.map
  | csr c v a => exact (csrWrite_memMap _ c v).trans a.map
  | fenceI | mret => rfl

theorem mem (h : SideEffect s k u) (hk : k ∉ [.store, .storeConditional, .amo]) : u.mem = s.mem := by
  cases h with
  | none _ a | reserved _ a => exact a.mem
  | stored _ h => rcases h with rfl | rfl <;> simp at hk
  | released | storedAndReleased => simp at hk
  | csr c v a => exact (csrWrite_mem _ c v).trans a.mem
  | fenceI | mret => rfl

theorem storedSinceFenceI (h : SideEffect s k u) (hk : k ∉ [.store, .storeConditional, .amo]) (hf : k ≠ .fenceI) :
    u.storedSinceFenceI = s.storedSinceFenceI := by
  cases h with
  | none _ a | reserved _ a => exact a.stored
  | stored _ h => rcases h with rfl | rfl <;> simp at hk
  | released | storedAndReleased => simp at hk
  | csr c v a => exact (csrWrite_storedSinceFenceI _ c v).trans a.stored
  | fenceI => exact absurd rfl hf
  | mret => rfl

theorem csrs (h : SideEffect s k u) (hk : k ∉ [.csr, .mret]) : KeepsCsrs s u := by
  cases h with
  | none _ a | stored _ _ a _ | reserved _ a | released a | storedAndReleased _ a _ => exact { a.csrs with }
  | csr | mret => simp at hk
  | fenceI => exact ⟨rfl, rfl, rfl, rfl, rfl, rfl⟩

/-- `mret` writes neither `mtvec` nor `mscratch`. -/
theorem mtvec_mscratch (h : SideEffect s k u) (hk : k ≠ .csr) : u.mtvec = s.mtvec ∧ u.mscratch = s.mscratch := by
  cases h with
  | none _ a | stored _ _ a _ | reserved _ a | released a | storedAndReleased _ a _ =>
    exact ⟨a.csrs.mtvec, a.csrs.mscratch⟩
  | csr => exact absurd rfl hk
  | fenceI | mret => exact ⟨rfl, rfl⟩

theorem lm (h : SideEffect s k u) (hk : k ∉ [.loadReserved, .storeConditional]) : u.lm = s.lm := by
  cases h with
  | none _ a | stored _ _ a _ => exact a.lm
  | reserved | released | storedAndReleased => simp at hk
  | csr c v a => exact (csrWrite_lm _ c v).trans a.lm
  | fenceI | mret => rfl

/-- An `sc.w` leaves the local monitor as it was or clear. -/
theorem lm_storeConditional (h : SideEffect s k u) (hk : k = .storeConditional) (hu : u.lm = true) : s.lm = true := by
  cases h with
  | none _ a | stored _ _ a _ => exact a.lm.symm.trans hu
  | released | storedAndReleased => cases hu
  | reserved | csr | fenceI | mret => cases hk

end SideEffect

/-! ### The shared operations -/

/-- A read of memory raises code 4, 5, 6 or 7 (R57, R360). -/
theorem memRead_raises_code {by' : AccessBy} {ks : List AccessKind} {n : Nat} {addr : Word} {e : Exception}
    (h : memRead by' ks n addr s = .raises e) : e.code ∈ raisedCodes := by
  unfold memRead at h
  split at h
  · cases h; cases by' <;> simp [misalignedFor, Exception.code, raisedCodes]
  · split at h
    · cases h; cases by' <;> simp [accessFaultFor, Exception.code, raisedCodes]
    · split at h <;> cases h

/-- A write to memory raises code 6 or 7 (R57, R360). -/
theorem memWrite_error_code {ks : List AccessKind} {n : Nat} {addr v : Word} {e : Exception}
    (h : memWrite ks n addr v s = .error e) : e.code ∈ raisedCodes := by
  unfold memWrite at h
  split at h
  · cases h; simp [Exception.code, raisedCodes]
  · split at h
    · cases h; simp [Exception.code, raisedCodes]
    · cases h

theorem backedAll_range {k : AccessKind} {ks : List AccessKind} {n : Nat} {addr : Word}
    (h : backedAll (k :: ks) n addr s = true) : addr.toNat + n ≤ 2 ^ 32 :=
  backed_range (List.all_eq_true.1 h k List.mem_cons_self)

variable {i : Instr} {rd : Reg}

/-- An instruction that goes on to the next one. -/
theorem Effect.advanced {v : Word} {c : Cost} {ilen : Word} (hl : ilen.getLsbD 0 = false)
    (side : SideEffect s (classOf i) u) (dest : destination i = some rd ∨ rd = 0) :
    Effect i s (charge c (advance ilen (writeReg rd v u))) :=
  .completed side dest fun _ hp _ => add_bit0_false (by rwa [writeReg_pc, side.pc]) hl

/-- An instruction without a destination that goes on to the next one. -/
theorem Effect.onlyAdvanced {c : Cost} {ilen : Word} (hl : ilen.getLsbD 0 = false) (side : SideEffect s (classOf i) u) :
    Effect i s (charge c (advance ilen u)) :=
  .advanced (rd := 0) (v := 0) hl side (.inr rfl)

theorem writeBack_effect {ilen v : Word} {c : Cost} (h : writeBack ilen c rd v s = .next t)
    (hl : ilen.getLsbD 0 = false) (hd : destination i = some rd ∨ rd = 0) : Effect i s t := by
  cases h
  exact .advanced hl (.none _ (.refl s)) hd

theorem jump_effect {ilen target : Word} (h : jump ilen rd target s = .next t)
    (hd : destination i = some rd ∨ rd = 0)
    (ht : evenOffset i = true → s.pc.getLsbD 0 = false → target.getLsbD 0 = false) : Effect i s t := by
  cases h
  exact .completed (.none _ (.refl s)) hd fun ho hp _ => ht ho hp

theorem branch_effect {ilen target : Word} {taken : Bool} (h : branch ilen taken target s = .next t)
    (hl : ilen.getLsbD 0 = false)
    (ht : evenOffset i = true → s.pc.getLsbD 0 = false → target.getLsbD 0 = false) : Effect i s t := by
  cases taken with
  | true =>
    cases h
    exact .completed (rd := 0) (v := 0) (.none _ (.refl s)) (.inr rfl) fun ho hp _ => ht ho hp
  | false =>
    cases h
    exact .onlyAdvanced hl (.none _ (.refl s))

theorem loadOp_effect {ilen addr : Word} {n : Nat} {ext : Word → Word} (h : loadOp ilen n ext rd addr s = .next t)
    (hl : ilen.getLsbD 0 = false) (hd : destination i = some rd) : Effect i s t := by
  rcases loadOp_next h with ⟨e, he, rfl⟩ | ⟨v, c, -, rfl⟩
  · exact .trapped (.refl s) (memRead_raises_code he)
  · exact .advanced hl (.none _ (.refl s)) (.inl hd)

theorem storeOp_effect {ilen addr v : Word} {n : Nat} (h : storeOp ilen n addr v s = .next t)
    (hl : ilen.getLsbD 0 = false) (hk : classOf i = .store) : Effect i s t := by
  rcases storeOp_next h with ⟨e, he, rfl⟩ | ⟨-, hb, rfl⟩
  · exact .trapped (.refl s) (memWrite_error_code he)
  · exact .onlyAdvanced hl (.stored v (.inl hk) (.refl s) (backedAll_range hb))

theorem csrSwap_effect {csr : BitVec 12} {v : Word} (h : csrSwap rd csr v s = .next t) (hk : classOf i = .csr)
    (hd : destination i = some rd) : Effect i s t := by
  cases hc : csrOf csr with
  | none => rw [csrSwap_unknown hc] at h; cases h
  | some c =>
    by_cases hr : rd = 0
    · subst hr
      rw [csrSwap_x0 hc] at h
      cases h
      exact .onlyAdvanced rfl (hk ▸ .csr c v (.refl s))
    · rw [csrSwap_known hc hr] at h
      cases h
      exact .advanced rfl (hk ▸ .csr c v ((OnlyAsked.refl s).afterCsrRead c)) (.inl hd)

theorem csrModify_effect {csr : BitVec 12} {writes : Bool} {f : Word → Word}
    (h : csrModify rd csr writes f s = .next t) (hk : classOf i = .csr) (hd : destination i = some rd) :
    Effect i s t := by
  cases hc : csrOf csr with
  | none => rw [csrModify_unknown hc] at h; cases h
  | some c =>
    have asked := (OnlyAsked.refl s).afterCsrRead c
    rw [csrModify_known hc] at h
    cases h
    cases writes with
    | true => exact .advanced rfl (hk ▸ .csr c _ asked) (.inl hd)
    | false => exact .advanced rfl (.none _ asked) (.inl hd)

/-! ### Atomics -/

theorem execLrW_effect {rs1 : Reg} {aq rl : Bool} (h : execLrW rd rs1 aq rl s = .next t) :
    Effect (.lrW rd rs1 aq rl) s t := by
  unfold execLrW at h
  split at h
  · next e he =>
    cases h
    exact .trapped (.refl s) (memRead_raises_code he)
  · cases h
  · cases h
    exact .advanced rfl (.reserved _ (OnlyAsked.refl s).afterReadAnswer) (.inl rfl)

theorem execScW_effect {rs2 rs1 : Reg} {aq rl : Bool} (h : execScW rd rs2 rs1 aq rl s = .next t) :
    Effect (.scW rd rs2 rs1 aq rl) s t := by
  have asked : OnlyAsked s (afterWriteAnswer s) := (OnlyAsked.refl s).afterWriteAnswer
  unfold execScW at h
  split at h
  · cases h
    exact .trapped (.refl s) (by simp [Exception.code, raisedCodes])
  · cases h
    rcases storeConditional_cases rd (readReg rs1 s) (readReg rs2 s) s with
      ⟨-, e⟩ | ⟨-, -, e⟩ | ⟨-, -, x, hx, e⟩ | ⟨-, -, -, hb, e⟩
    · rw [e]; exact .advanced rfl (.released (.refl s)) (.inl rfl)
    · rw [e]; exact .advanced rfl (.released asked) (.inl rfl)
    · rw [e]; exact .trapped asked (memWrite_error_code hx)
    · rw [e]; exact .advanced rfl (.storedAndReleased _ asked (backedAll_range hb)) (.inl rfl)

/-- One attempt of an AMO has its effect if what follows a lost attempt has. -/
theorem amoAttempt_effect {op : Word → Word → Word} {addr old src : Word} {retry : State → State}
    (hk : classOf i = .amo) (hd : destination i = some rd) (hretry : ∀ u, OnlyAsked s u → Effect i s (retry u))
    (hu : OnlyAsked s u) : Effect i s (amoAttempt op rd addr old src retry u) := by
  have asked := hu.afterReadAnswer.afterWriteAnswer
  rcases amoAttempt_cases op rd addr old src retry u with ⟨-, e⟩ | ⟨-, -, e⟩ | ⟨-, -, x, hx, e⟩ | ⟨-, -, -, hb, e⟩
  · rw [e]; exact .trapped hu.afterReadAnswer (by simp [Exception.code, raisedCodes])
  · rw [e]; exact hretry _ (asked.charge _)
  · rw [e]; exact .trapped asked (memWrite_error_code hx)
  · rw [e]; exact .advanced rfl (.stored _ (.inr hk) asked (backedAll_range hb)) (.inl hd)

theorem amoAttempts_effect {op : Word → Word → Word} {addr old src : Word} (hk : classOf i = .amo)
    (hd : destination i = some rd) (n : Nat) (hu : OnlyAsked s u) :
    Effect i s (amoAttempts op rd addr old src n u) := by
  induction n generalizing u with
  | zero => exact amoAttempt_effect hk hd (fun _ => .waiting) hu
  | succ n ih => exact amoAttempt_effect hk hd (fun _ => ih) hu

theorem amoOp_effect {op : Word → Word → Word} {rs2 rs1 : Reg} (h : amoOp op rd rs2 rs1 s = .next t)
    (hk : classOf i = .amo) (hd : destination i = some rd) : Effect i s t := by
  unfold amoOp at h
  split at h
  · next e he =>
    cases h
    exact .trapped (.refl s) (memRead_raises_code he)
  · cases h
  · cases h
    exact amoAttempts_effect hk hd _ (.refl s)

/-! ### Every instruction -/

/-- A target an even offset away from an even pc is even. -/
theorem target_bit0 {n : Nat} {o : BitVec (n + 1)} (ho : (!o.getLsbD 0) = true) (hp : s.pc.getLsbD 0 = false) :
    (s.pc + sext o).getLsbD 0 = false :=
  add_bit0_false hp ((sext_bit0 o).trans (by simpa using ho))

/-- Everything an instruction can do. -/
theorem exec_effect {i : Instr} {s t : State} (h : exec i s = .next t) : Effect i s t := by
  cases i
  case add | sub | slt | sltu | and | or | xor | sll | srl | sra | addi | slti | sltiu | andi | ori | xori | slli | srli
    | srai | lui | auipc => exact writeBack_effect h rfl (.inl rfl)
  case sh1add | sh2add | sh3add | andn | clz | cpop | ctz | max | maxu | min | minu | orcB | orn | rev8 | rol | ror
    | rori | sextB | sextH | xnor | zextH | clmul | clmulh | clmulr | bclr | bclri | bext | bexti | binv | binvi
    | bset | bseti => exact writeBack_effect h rfl (.inl rfl)
  case mul | mulh | mulhsu | mulhu | div | divu | rem | remu => exact writeBack_effect h rfl (.inl rfl)
  case cAddi4spn | cAddi | cLi | cAddi16sp | cLui | cSrli | cSrai | cAndi | cSub | cXor | cOr | cAnd | cSlli | cMv
    | cAdd => exact writeBack_effect h rfl (.inl rfl)
  case cNop => exact writeBack_effect h rfl (.inr rfl)
  case jal | cJal => exact jump_effect h (.inl rfl) target_bit0
  case cJ => exact jump_effect h (.inr rfl) target_bit0
  case jalr | cJalr => exact jump_effect h (.inl rfl) fun _ _ => clearBit0_bit0 _
  case cJr => exact jump_effect h (.inr rfl) fun _ _ => clearBit0_bit0 _
  case beq | bne | blt | bge | bltu | bgeu | cBeqz | cBnez => exact branch_effect h rfl target_bit0
  case lw | lh | lhu | lb | lbu | cLw | cLwsp => exact loadOp_effect h rfl rfl
  case sw | sh | sb | cSw | cSwsp => exact storeOp_effect h rfl rfl
  case lrW => exact execLrW_effect h
  case scW => exact execScW_effect h
  case amoswapW | amoaddW | amoxorW | amoandW | amoorW | amominW | amomaxW | amominuW | amomaxuW =>
    exact amoOp_effect h rfl rfl
  case csrrw | csrrwi => exact csrSwap_effect h rfl rfl
  case csrrc | csrrs | csrrci | csrrsi =>
    simp only [exec] at h -- the arm is named first, for Lean to find the operand that is a function
    exact csrModify_effect h rfl rfl
  case ecall | ebreak | cEbreak => cases h; exact .trapped (.refl s) (by decide)
  case fence | wfi => cases h; exact .onlyAdvanced rfl (.none _ (.refl s))
  case fenceI imm rs1 rd => cases h; exact .onlyAdvanced (i := .fenceI imm rs1 rd) rfl .fenceI
  case mret =>
    cases h
    exact .completed (i := .mret) (rd := 0) (v := 0) (.mret ⟨s.mstatus.mpie, true⟩) (.inr rfl) fun _ _ hm => hm

end Sys2Proof.Machine
end

section
/-! PROOFS. The invariant, and what instructions leave unchanged, from what an instruction can do. -/

namespace Sys2Proof.Machine

open Sys2Proof

/-! ## The invariant -/

variable {s u t : State}

/-- Bytes stored inside the address space keep memory and the stored set in canonical form, and hold values (R46). -/
theorem storeBytes_inv {n : Nat} {addr : Word} (v : Word) (h : u.Inv) (fits : addr.toNat + n ≤ 2 ^ 32) :
    (storeBytes n addr v u).Inv where
  __ := h
  memWf := storeBytes_mem_wf v h.memWf fits
  storedWf := AddrSet.insertRange_wf _ _ h.storedWf
  storedHoldsValue a ha := by
    rw [read_storeBytes]
    rcases AddrSet.mem_insertRange.1 ha with hr | ho
    · rw [if_pos hr]; rfl
    · split
      · rfl
      · exact h.storedHoldsValue a ho

theorem OnlyAsked.inv (a : OnlyAsked s u) (h : s.Inv) : u.Inv where
  pcEven := a.pc ▸ h.pcEven
  mepcEven := a.csrs.mepc ▸ h.mepcEven
  memWf := a.mem ▸ h.memWf
  storedWf := a.stored ▸ h.storedWf
  storedHoldsValue := by rw [a.mem, a.stored]; exact h.storedHoldsValue

theorem csrWrite_inv (c : Csr) (v : Word) (h : u.Inv) : (csrWrite c v u).Inv := by
  cases c with
  | mepc => exact { h with mepcEven := clearBit0_bit0 v }
  | mstatus | mtvec | mscratch | mcause | mtval => exact { h with }

theorem SideEffect.inv {k : InstrClass} (side : SideEffect s k u) (h : s.Inv) : u.Inv := by
  cases side with
  | none _ a => exact a.inv h
  | stored v _ a fits => exact storeBytes_inv v (a.inv h) fits
  | reserved _ a | released a => exact { a.inv h with }
  | storedAndReleased v a fits => exact { storeBytes_inv v (a.inv h) fits with }
  | csr c v a => exact csrWrite_inv c v (a.inv h)
  | fenceI => exact { h with storedWf := .nil, storedHoldsValue := nofun }
  | mret m => exact { h with }

/-- A trap saves an even pc and goes to an even handler (R30, R32, R370). -/
theorem takeTrap_inv (e : Exception) (h : u.Inv) : (takeTrap e u).Inv where
  pcEven := by rw [takeTrap_pc, trapTarget_bit0]
  mepcEven := by rw [takeTrap_mepc, clearBit0_bit0]
  memWf := by rw [takeTrap_mem]; exact h.memWf
  storedWf := by rw [takeTrap_storedSinceFenceI]; exact h.storedWf
  storedHoldsValue := by rw [takeTrap_storedSinceFenceI, takeTrap_mem]; exact h.storedHoldsValue

theorem Effect.inv {i : Instr} (effect : Effect i s t) (hi : evenOffset i = true) (h : s.Inv) : t.Inv := by
  cases effect with
  | trapped a _ => exact takeTrap_inv _ (a.inv h)
  | waiting a => exact a.inv h
  | completed side _ even =>
    exact { side.inv h with pcEven := even hi h.pcEven h.mepcEven }

/-- Settles O52: a fetch that raises traps, and what was fetched was decoded, so its offset is even. -/
theorem stepKeepsInvariant : Obligations.StepKeepsInvariant := by
  intro s t h hstep
  rcases step_next hstep with ⟨e, -, rfl⟩ | ⟨i, hi, hx⟩
  · exact takeTrap_inv e h
  · exact (exec_effect hx).inv (fetchInstr_evenOffset hi) h

/-! ## What instructions leave unchanged -/

/-- Taking an exception after asking the global monitor is a trap from the state before (R370). -/
theorem OnlyAsked.trapped (a : OnlyAsked s u) (e : Exception) : Trapped e.code s (takeTrap e u) where
  mepc := by rw [takeTrap_mepc, a.pc]; rfl
  mcause := takeTrap_mcause u e
  mstatus := by rw [takeTrap_mstatus, a.csrs.mstatus]
  pc := by rw [takeTrap_pc, trapTarget, a.csrs.mtvec]
  mtvec := by rw [takeTrap_mtvec, a.csrs.mtvec]
  mscratch := by rw [takeTrap_mscratch, a.csrs.mscratch]
  regs r _ := by rw [readReg_takeTrap, readReg_congr a.regs]
  lm := by rw [takeTrap_lm, a.lm]
  memory := ⟨fun b => by rw [takeTrap_mem, a.mem], by rw [takeTrap_storedSinceFenceI, a.stored],
    by rw [takeTrap_memMap, a.map]⟩

/-- Settles O54: nothing an instruction does but its result writes a general register. -/
theorem onlyDestinationRegisterChanges : Obligations.OnlyDestinationRegisterChanges := by
  intro i s t h r hr
  cases exec_effect h with
  | @trapped u e a _ => exact (a.trapped e).regs r List.not_mem_nil
  | waiting a => exact readReg_congr a.regs r
  | @completed u rd v p c side dest _ =>
    have hread : readReg r (writeReg rd v u) = readReg r u := by
      rw [readReg_writeReg, if_neg]
      rintro ⟨rfl, h0⟩
      exact dest.elim hr h0
    exact hread.trans (readReg_congr side.regs r)

/-- Settles O56: the side effects of a store, an `sc.w` and an AMO alone write memory. -/
theorem onlyStoresChangeMemory : Obligations.OnlyStoresChangeMemory := by
  refine ⟨fun i s t h => ?_, fun s t e he h => ?_⟩
  · cases exec_effect h with
    | @trapped u e a _ =>
      obtain ⟨-, hstored, hmap⟩ := (a.trapped e).memory
      exact ⟨hmap, fun _ => ⟨by rw [takeTrap_mem, a.mem], fun _ => hstored⟩⟩
    | waiting a => exact ⟨a.map, fun _ => ⟨a.mem, fun _ => a.stored⟩⟩
    | completed side _ _ =>
      exact ⟨side.memMap, fun hk => ⟨side.mem hk, fun hf => side.storedSinceFenceI hk hf⟩⟩
  · rcases step_next h with ⟨e', -, rfl⟩ | ⟨i, hi, -⟩
    · exact ((OnlyAsked.refl s).trapped e').memory
    · rw [hi] at he; cases he

/-- Settles O57: a trap saves into the CSRs; but for it, the side effects of the CSR instructions and `mret` alone write
them, and those of `lr.w` and `sc.w` the local monitor. -/
theorem systemStateChangesOnlyByItsInstructions : Obligations.SystemStateChangesOnlyByItsInstructions := by
  intro i s t h
  cases exec_effect h with
  | @trapped u e a code =>
    have trap := a.trapped e
    exact ⟨fun _ => .inr ⟨e.code, code, trap⟩, fun _ => ⟨trap.mtvec, trap.mscratch⟩, fun _ => trap.lm,
      fun _ ht => trap.lm.symm.trans ht⟩
  | waiting a =>
    exact ⟨fun _ => .inl a.csrs, fun _ => ⟨a.csrs.mtvec, a.csrs.mscratch⟩, fun _ => a.lm,
      fun _ ht => a.lm.symm.trans ht⟩
  | completed side _ _ =>
    refine ⟨fun hk => .inl ?_, side.mtvec_mscratch, side.lm, fun hk ht => ?_⟩
    · exact { side.csrs hk with }
    · exact side.lm_storeConditional hk ht

end Sys2Proof.Machine
end

section
/-! PROOFS. The general registers, the CSRs, the launch, and the CSR addresses that are refused. -/

namespace Sys2Proof.Machine

open Sys2Proof

/-- Settles O1, by the rules for a read after a write. -/
theorem zeroRegisterHardwired : Obligations.ZeroRegisterHardwired :=
  ⟨Fintype.card_fin 32, fun s => ⟨readReg_zero s, writeReg_zero s, fun _ v h => readReg_writeReg_same s h v,
    fun _ _ v h => readReg_writeReg_other s h v⟩⟩

/-! ## CSR addresses (R36) -/

/-- An address that is none of the six names no register. -/
theorem csrOf_eq_none {a : BitVec 12} (h : a ∉ [0x300#12, 0x305#12, 0x340#12, 0x341#12, 0x342#12, 0x343#12]) :
    csrOf a = none := by
  simp only [List.mem_cons, List.not_mem_nil, or_false, not_or] at h
  obtain ⟨h0, h5, h40, h41, h42, h43⟩ := h
  rw [csrOf, if_neg h0, if_neg h5, if_neg h40, if_neg h41, if_neg h42, if_neg h43]

/-- Settles O25: every CSR instruction looks its register up first. -/
theorem unknownCsrRefused : Obligations.UnknownCsrRefused := by
  intro s rd rs1 uimm csr h
  have hc := csrOf_eq_none h
  intro i hi
  simp only [List.mem_cons, List.not_mem_nil, or_false] at hi
  rcases hi with rfl | rfl | rfl | rfl | rfl | rfl
  · exact csrSwap_unknown hc
  · exact csrModify_unknown (f := fun t => t ||| readReg rs1 s) hc
  · exact csrModify_unknown (f := fun t => t &&& ~~~readReg rs1 s) hc
  · exact csrSwap_unknown hc
  · exact csrModify_unknown (f := fun t => t ||| zext uimm) hc
  · exact csrModify_unknown (f := fun t => t &&& ~~~zext uimm) hc

/-! ## What a CSR reads after a write (R30 to R35, R280) -/

/-- `mstatus` is 0x1800 but for MPIE and MIE, bits 7 and 3 (R31). -/
theorem mstatusWord_eq (m : Mstatus) :
    mstatusWord m = 0x00001800#32 ||| ((if m.mpie then 0x80#32 else 0) ||| (if m.mie then 0x8#32 else 0)) := by
  obtain ⟨mie, mpie⟩ := m
  cases mie <;> cases mpie <;> rfl

theorem mstatusWord_mstatusOf (v : Word) : mstatusWord (mstatusOf v) = 0x00001800#32 ||| (v &&& 0x00000088#32) := by
  have h7 : v &&& 0x80#32 = if v.getLsbD 7 then 0x80#32 else 0 := BitVec.and_twoPow v 7
  have h3 : v &&& 0x8#32 = if v.getLsbD 3 then 0x8#32 else 0 := BitVec.and_twoPow v 3
  rw [mstatusWord_eq, mstatusOf, ← h7, ← h3, ← BitVec.and_or_distrib_left]; rfl

/-- `mtvec` loses bit 1 (R30). -/
theorem mtvecWord_mtvecOf (v : Word) : mtvecWord (mtvecOf v) = v &&& 0xFFFFFFFD#32 := by
  have mask : 0xFFFFFFFD#32 = ~~~ BitVec.twoPow 32 1 := by decide
  refine BitVec.eq_of_getLsbD_eq fun i hi => ?_
  rw [mtvecWord, mtvecOf, BitVec.getLsbD_append, BitVec.getLsbD_append, mask, BitVec.getLsbD_and, BitVec.getLsbD_not,
    BitVec.getLsbD_twoPow]
  match i with
  | 0 => simp
  | 1 => simp
  | j + 2 => simp [BitVec.extractLsb, show j < 30 by omega, show 2 + j = j + 2 by omega, show j + 2 < 32 by omega]

theorem mcauseLegal_iff (v : Word) :
    mcauseLegal v = true ↔ v ∈ [0#32, 1#32, 2#32, 3#32, 4#32, 5#32, 6#32, 7#32, 11#32] := by
  rw [mcauseLegal, List.contains_iff_mem]
  simp [BitVec.toNat_eq]

/-- Settles O26: a read after a write gives the writable bits of the written value. -/
theorem csrWritesReadBack : Obligations.CsrWritesReadBack := by
  intro s v
  simp only [csrValue_csrWrite_same]
  refine ⟨mstatusWord_mstatusOf v, mtvecWord_mtvecOf v, rfl, trivial, trivial, fun h => ?_, fun h => ?_⟩
  · rw [if_pos ((mcauseLegal_iff v).2 h)]
  · rw [if_neg (h ∘ (mcauseLegal_iff v).1)]

/-! ## A launch (R45, R400) -/

/-- The registers of a launch are 0 (log 1). -/
theorem readReg_launch (l : Launch) (r : Reg) : readReg r (State.launch l) = 0 := by
  simp only [readReg, regsAt, State.launch, Vector.getElem_replicate]
  split <;> rfl

theorem csrValue_mstatus_launch (l : Launch) : csrValue .mstatus (State.launch l) = 0x00001800#32 :=
  (by decide : mstatusWord { mie := false, mpie := false } = 0x00001800#32)

theorem launch_inv {l : Launch} (h : LaunchOk l) : (State.launch l).Inv :=
  ⟨h.resetVectorEven, by simp [State.launch], h.imageWf, .nil, nofun⟩

/-- Settles O53: every field of a launch is as given, and what it gives `mtvec` is what a write would. -/
theorem launchStateAndInvariant : Obligations.LaunchStateAndInvariant := by
  refine ⟨fun l r => ⟨rfl, csrValue_mstatus_launch l, mtvecWord_mtvecOf l.mtvecInit, rfl, rfl, rfl, rfl, rfl,
    readReg_launch l r, rfl, rfl, rfl, rfl, launch_inv⟩, rfl, ?_⟩
  exact ⟨rfl, rfl, .nil, nofun⟩

end Sys2Proof.Machine
end

section
/-! PROOFS. A register that an instruction does not name is unread (R22). Another value in it is carried through every
shared operation: what the operation answers from the state with that value is what it answers without, with that value
put in afterwards. -/

namespace Sys2Proof.Machine

open Sys2Proof

/-- An answer with its next state, if it has one, changed. -/
def mapNext (f : State → State) : Result → Result
  | .next t => .next (f t)
  | .fault x => .fault x
  | .refused x => .refused x

variable {r rd : Reg} {x : Word} {s : State}

/-! ## Operations on a state with another value in a register -/

theorem regsWith_comm {q r : Reg} (h : q ≠ r) (w x : Word) (regs : Vector Word 31) :
    regsWith q w (regsWith r x regs) = regsWith r x (regsWith q w regs) := by
  unfold regsWith
  split
  · rfl
  · split
    · rfl
    · exact Vector.set_comm _ _ fun e => h (Fin.ext (by omega))

/-- Writes to two registers may be swapped. -/
theorem writeReg_comm {q : Reg} (h : q ≠ r) (w : Word) :
    writeReg q w (writeReg r x s) = writeReg r x (writeReg q w s) :=
  congrArg s.setRegs (regsWith_comm h w x s.regs)

@[simp] theorem fetchInstr_writeReg : fetchInstr (writeReg r x s) = fetchInstr s := fetchInstr_congr rfl rfl rfl rfl

@[simp] theorem nextInstr_writeReg : nextInstr (writeReg r x s) = nextInstr s := by
  simp only [nextInstr, fetchInstr_writeReg]

@[simp] theorem memRead_writeReg (by' : AccessBy) (ks : List AccessKind) (n : Nat) (addr : Word) :
    memRead by' ks n addr (writeReg r x s) = memRead by' ks n addr s := rfl

theorem memWrite_writeReg (ks : List AccessKind) (n : Nat) (addr v : Word) :
    memWrite ks n addr v (writeReg r x s) = (memWrite ks n addr v s).map (writeReg r x) := by
  cases ha : naturallyAligned n addr with
  | false => rw [memWrite_misaligned ha, memWrite_misaligned ha]; rfl
  | true =>
    cases hb : backedAll ks n addr s with
    | false => rw [memWrite_unbacked (s := s) ha hb, memWrite_unbacked (s := writeReg r x s) ha hb]; rfl
    | true => rw [memWrite_ok (s := s) ha hb, memWrite_ok (s := writeReg r x s) ha hb]; rfl

@[simp] theorem readAnswer_writeReg : readAnswer (writeReg r x s) = readAnswer s := rfl

@[simp] theorem writeAnswer_writeReg : writeAnswer (writeReg r x s) = writeAnswer s := rfl

theorem afterReadAnswer_writeReg :
    afterReadAnswer (writeReg r x s) = writeReg r x (afterReadAnswer s) := rfl

theorem afterWriteAnswer_writeReg :
    afterWriteAnswer (writeReg r x s) = writeReg r x (afterWriteAnswer s) := rfl

theorem setLm_writeReg (b : Bool) : (writeReg r x s).setLm b = writeReg r x (s.setLm b) := rfl

theorem setPc_writeReg (p : Word) : (writeReg r x s).setPc p = writeReg r x (s.setPc p) := rfl

theorem advance_writeReg (ilen : Word) : advance ilen (writeReg r x s) = writeReg r x (advance ilen s) := rfl

theorem charge_writeReg (c : Cost) : charge c (writeReg r x s) = writeReg r x (charge c s) := rfl

theorem takeTrap_writeReg (e : Exception) : takeTrap e (writeReg r x s) = writeReg r x (takeTrap e s) :=
  charge_writeReg (s := (saveTrap e s).setPc (trapTarget s)) e.cost

@[simp] theorem jumpCost_writeReg : jumpCost (writeReg r x s) = jumpCost s := rfl

@[simp] theorem csrValue_writeReg (c : Csr) : csrValue c (writeReg r x s) = csrValue c s := by cases c <;> rfl

theorem afterCsrRead_writeReg (c : Csr) : afterCsrRead c (writeReg r x s) = writeReg r x (afterCsrRead c s) := rfl

theorem csrWrite_writeReg (c : Csr) (v : Word) : csrWrite c v (writeReg r x s) = writeReg r x (csrWrite c v s) := by
  cases c <;> rfl

/-! ## The shared operations -/

theorem writeBack_writeReg {ilen v v' : Word} {c c' : Cost} (hd : rd ≠ r) (hv : v' = v) (hc : c' = c) :
    writeBack ilen c' rd v' (writeReg r x s) = mapNext (writeReg r x) (writeBack ilen c rd v s) := by
  simp only [writeBack_eq, mapNext, hv, hc, writeReg_comm hd, advance_writeReg, charge_writeReg]

theorem multiply_writeReg {v v' : Word} (hd : rd ≠ r) (hv : v' = v) :
    multiply rd v' (writeReg r x s) = mapNext (writeReg r x) (multiply rd v s) := by
  simp only [multiply_eq, mapNext, hv, writeReg_comm hd, advance_writeReg, nextInstr_writeReg, charge_writeReg]

theorem jump_writeReg {ilen target target' : Word} (hd : rd ≠ r) (ht : target' = target) :
    jump ilen rd target' (writeReg r x s) = mapNext (writeReg r x) (jump ilen rd target s) := by
  simp only [jump_eq, mapNext, ht, writeReg_pc, writeReg_comm hd, setPc_writeReg, jumpCost_writeReg, charge_writeReg]

theorem branch_writeReg {ilen target : Word} {taken taken' : Bool} (hb : taken' = taken) :
    branch ilen taken' target (writeReg r x s) = mapNext (writeReg r x) (branch ilen taken target s) := by
  subst hb
  cases taken' <;> rfl

theorem loadOp_writeReg {ilen addr addr' : Word} {n : Nat} {ext : Word → Word} (hd : rd ≠ r) (ha : addr' = addr) :
    loadOp ilen n ext rd addr' (writeReg r x s) = mapNext (writeReg r x) (loadOp ilen n ext rd addr s) := by
  simp only [loadOp, ha, memRead_writeReg]
  cases memRead .load [.read] n addr s with
  | raises e => simp only [mapNext, takeTrap_writeReg]
  | faults f => rfl
  | value v => simp only [mapNext, writeReg_comm hd, advance_writeReg, nextInstr_writeReg, charge_writeReg]

theorem storeOp_writeReg {ilen addr addr' v v' : Word} {n : Nat} (ha : addr' = addr) (hv : v' = v) :
    storeOp ilen n addr' v' (writeReg r x s) = mapNext (writeReg r x) (storeOp ilen n addr v s) := by
  simp only [storeOp, ha, hv, memWrite_writeReg]
  cases memWrite [.write] n addr v s with
  | error e => simp only [Except.map, mapNext, takeTrap_writeReg]
  | ok t => simp only [Except.map, mapNext, advance_writeReg, charge_writeReg]

theorem csrSwap_writeReg {csr : BitVec 12} {v v' : Word} (hd : rd ≠ r) (hv : v' = v) :
    csrSwap rd csr v' (writeReg r x s) = mapNext (writeReg r x) (csrSwap rd csr v s) := by
  subst hv
  cases hc : csrOf csr with
  | none => rw [csrSwap_unknown hc, csrSwap_unknown hc]; rfl
  | some c =>
    by_cases h0 : rd = 0
    · subst h0
      simp only [csrSwap_x0 hc, mapNext, csrWrite_writeReg, advance_writeReg, charge_writeReg]
    · simp only [csrSwap_known hc h0, mapNext, csrValue_writeReg, afterCsrRead_writeReg, csrWrite_writeReg,
        writeReg_comm hd, advance_writeReg, charge_writeReg]

theorem csrModify_writeReg {csr : BitVec 12} {writes : Bool} {f f' : Word → Word} (hd : rd ≠ r) (hf : f' = f) :
    csrModify rd csr writes f' (writeReg r x s) = mapNext (writeReg r x) (csrModify rd csr writes f s) := by
  subst hf
  cases hc : csrOf csr with
  | none => rw [csrModify_unknown hc, csrModify_unknown hc]; rfl
  | some c =>
    simp only [csrModify_known hc, mapNext, csrValue_writeReg, afterCsrRead_writeReg, csrWrite_writeReg]
    cases writes <;>
      simp only [Bool.false_eq_true, if_true, if_false, writeReg_comm hd, advance_writeReg, charge_writeReg]

/-! ## Atomics -/

theorem execLrW_writeReg {rs1 : Reg} {aq rl : Bool} (hd : rd ≠ r) (h1 : readReg rs1 (writeReg r x s) = readReg rs1 s) :
    execLrW rd rs1 aq rl (writeReg r x s) = mapNext (writeReg r x) (execLrW rd rs1 aq rl s) := by
  simp only [execLrW, h1, memRead_writeReg]
  cases memRead .load exclusiveReadKinds 4 (readReg rs1 s) s with
  | raises e => simp only [mapNext, takeTrap_writeReg]
  | faults f => rfl
  | value v =>
    rw [readAnswer_writeReg]
    simp only [mapNext, afterReadAnswer_writeReg, setLm_writeReg, writeReg_comm hd, advance_writeReg,
      nextInstr_writeReg, charge_writeReg]

theorem scDone_writeReg (hd : rd ≠ r) (code : Word) (s : State) :
    scDone rd code (writeReg r x s) = writeReg r x (scDone rd code s) := by
  simp only [scDone, setLm_writeReg, writeReg_comm hd, advance_writeReg, nextInstr_writeReg, charge_writeReg]

theorem storeConditional_writeReg (hd : rd ≠ r) (addr v : Word) (s : State) :
    storeConditional rd addr v (writeReg r x s) = writeReg r x (storeConditional rd addr v s) := by
  simp only [storeConditional, writeReg_lm, writeAnswer_writeReg, afterWriteAnswer_writeReg, memWrite_writeReg]
  split
  · exact scDone_writeReg hd 1 s
  · cases writeAnswer s with
    | lost => exact scDone_writeReg hd 1 _
    | ok =>
      cases memWrite exclusiveWriteKinds 4 addr v (afterWriteAnswer s) with
      | error e => exact takeTrap_writeReg e
      | ok t => exact scDone_writeReg hd 0 t

theorem execScW_writeReg {rs2 rs1 : Reg} {aq rl : Bool} (hd : rd ≠ r)
    (h1 : readReg rs1 (writeReg r x s) = readReg rs1 s) (h2 : readReg rs2 (writeReg r x s) = readReg rs2 s) :
    execScW rd rs2 rs1 aq rl (writeReg r x s) = mapNext (writeReg r x) (execScW rd rs2 rs1 aq rl s) := by
  simp only [execScW, h1, h2, takeTrap_writeReg, storeConditional_writeReg hd]
  split <;> rfl

/-- One attempt of an AMO carries the value if what follows a lost attempt does. -/
theorem amoAttempt_writeReg {op : Word → Word → Word} {addr old src : Word} {retry : State → State} (hd : rd ≠ r)
    (hretry : ∀ s, retry (writeReg r x s) = writeReg r x (retry s)) (s : State) :
    amoAttempt op rd addr old src retry (writeReg r x s) = writeReg r x (amoAttempt op rd addr old src retry s) := by
  simp only [amoAttempt, readAnswer_writeReg, afterReadAnswer_writeReg, writeAnswer_writeReg, afterWriteAnswer_writeReg,
    memWrite_writeReg]
  cases readAnswer s with
  | refused => exact takeTrap_writeReg _
  | granted =>
    cases writeAnswer (afterReadAnswer s) with
    | lost => simp only [charge_writeReg, hretry]
    | ok =>
      cases memWrite exclusiveWriteKinds 4 addr (op old src) (afterWriteAnswer (afterReadAnswer s)) with
      | error e => exact takeTrap_writeReg e
      | ok u => simp only [Except.map, writeReg_comm hd, advance_writeReg, charge_writeReg]

theorem amoAttempts_writeReg {op : Word → Word → Word} {addr old src : Word} (hd : rd ≠ r) (n : Nat) (s : State) :
    amoAttempts op rd addr old src n (writeReg r x s) = writeReg r x (amoAttempts op rd addr old src n s) := by
  induction n generalizing s with
  | zero => exact amoAttempt_writeReg (retry := fun t => t) hd (fun _ => rfl) s
  | succ n ih => exact amoAttempt_writeReg hd ih s

theorem amoOp_writeReg {op : Word → Word → Word} {rs2 rs1 : Reg} (hd : rd ≠ r)
    (h1 : readReg rs1 (writeReg r x s) = readReg rs1 s) (h2 : readReg rs2 (writeReg r x s) = readReg rs2 s) :
    amoOp op rd rs2 rs1 (writeReg r x s) = mapNext (writeReg r x) (amoOp op rd rs2 rs1 s) := by
  simp only [amoOp, h1, h2, memRead_writeReg, writeReg_monitorWrites, amoAttempts_writeReg hd, takeTrap_writeReg]
  cases memRead .storeAmo exclusiveReadKinds 4 (readReg rs1 s) s <;> rfl

/-! ## Every instruction -/

/-- Every instruction carries another value in a register it does not name: its operands are what they were. -/
theorem exec_writeReg {i : Instr} (h0 : r ≠ 0) (hs : r ∉ sources i) (hd : destination i ≠ some r) :
    exec i (writeReg r x s) = mapNext (writeReg r x) (exec i s) := by
  have read : ∀ q ∈ sources i, readReg q (writeReg r x s) = readReg q s :=
    fun q hq => readReg_writeReg_other s (ne_of_mem_of_not_mem hq hs) x
  have dest : ∀ q, destination i = some q → q ≠ r := fun q hq e => hd (hq.trans (congrArg some e))
  cases i <;> simp only [sources] at read
  case add | sub | slt | sltu | and | or | xor | sll | srl | sra | addi | slti | sltiu | andi | ori | xori | slli | srli
    | srai | lui | auipc => exact writeBack_writeReg (dest _ rfl) (by simp [read]) rfl
  case sh1add | sh2add | sh3add | andn | clz | cpop | ctz | max | maxu | min | minu | orcB | orn | rev8 | rol | ror
    | rori | sextB | sextH | xnor | zextH | clmul | clmulh | clmulr | bclr | bclri | bext | bexti | binv | binvi
    | bset | bseti => exact writeBack_writeReg (dest _ rfl) (by simp [read]) rfl
  case cAddi4spn | cAddi | cLi | cAddi16sp | cLui | cSrli | cSrai | cAndi | cSub | cXor | cOr | cAnd | cSlli
    | cMv | cAdd => exact writeBack_writeReg (dest _ rfl) (by simp [read]) rfl
  case cNop => exact writeBack_writeReg h0.symm rfl rfl
  case mul => exact multiply_writeReg (dest _ rfl) (by simp [read])
  case mulh | mulhsu | mulhu | div | divu | rem | remu =>
    exact writeBack_writeReg (dest _ rfl) (by simp [read]) rfl
  case jal | jalr | cJal | cJalr => exact jump_writeReg (dest _ rfl) (by simp [read])
  case cJ | cJr => exact jump_writeReg h0.symm (by simp [read])
  case beq | bne | blt | bge | bltu | bgeu | cBeqz | cBnez => exact branch_writeReg (by simp [read])
  case lw | lh | lhu | lb | lbu | cLw | cLwsp => exact loadOp_writeReg (dest _ rfl) (by simp [read])
  case sw | sh | sb | cSw | cSwsp => exact storeOp_writeReg (by simp [read]) (by simp [read])
  case lrW rd rs1 aq rl => exact execLrW_writeReg (aq := aq) (rl := rl) (dest _ rfl) (read _ (by simp))
  case scW rd rs2 rs1 aq rl =>
    exact execScW_writeReg (aq := aq) (rl := rl) (dest _ rfl) (read _ (by simp)) (read _ (by simp))
  case amoswapW | amoaddW | amoxorW | amoandW | amoorW | amominW | amomaxW | amominuW | amomaxuW =>
    exact amoOp_writeReg (dest _ rfl) (read _ (by simp)) (read _ (by simp))
  case csrrw | csrrwi => exact csrSwap_writeReg (dest _ rfl) (by simp [read])
  case csrrc | csrrs | csrrci | csrrsi =>
    simp only [exec] -- the arm is named first, for Lean to find the operand that is a function
    exact csrModify_writeReg (dest _ rfl) (by simp [read])
  case ecall | ebreak | cEbreak => exact congrArg Host.Outcome.next (takeTrap_writeReg _)
  case fence | fenceI | mret | wfi => rfl

/-- Settles O55: the value in the register is carried to the next state. -/
theorem unnamedRegistersAreUnread : Obligations.UnnamedRegistersAreUnread := by
  intro i s r v hs hd
  by_cases h0 : r = 0
  · subst h0
    exact ⟨fun _ h => h, fun _ h => h, fun _ h => h⟩
  · have carried := exec_writeReg (x := v) (s := s) h0 hs hd
    refine ⟨fun t h => ?_, fun f h => ?_, fun f h => ?_⟩ <;> rw [carried, h] <;> rfl

end Sys2Proof.Machine
end

section
/-! PROOFS. Data accesses: the two checks and the value of R57 in the obligations' words (aligned, backed, holds), and
what a load, a store and an `sc.w` do where a check fails or a byte holds no value. -/

namespace Sys2Proof.Machine

open Sys2Proof

variable {s u : State} {by' : AccessBy} {ks : List AccessKind} {n : Nat} {addr v : Word}

/-! ## The checks of R57 -/

theorem naturallyAligned_eq_true : naturallyAligned n addr = true ↔ addr.toNat % n = 0 := beq_iff_eq

theorem naturallyAligned_eq_false : naturallyAligned n addr = false ↔ addr.toNat % n ≠ 0 := beq_eq_false_iff_ne

theorem Permitted.naturallyAligned_eq (h : Permitted ks n addr s) : naturallyAligned n addr = true :=
  naturallyAligned_eq_true.2 h.aligned

theorem Permitted.backedAll_eq (h : Permitted ks n addr s) : backedAll ks n addr s = true := List.all_eq_true.2 h.backed

theorem Unbacked.naturallyAligned_eq (h : Unbacked ks n addr s) : naturallyAligned n addr = true :=
  naturallyAligned_eq_true.2 h.aligned

theorem Unbacked.backedAll_eq (h : Unbacked ks n addr s) : backedAll ks n addr s = false := by
  obtain ⟨k, hk, hb⟩ := h.unbacked
  exact List.all_eq_false.2 ⟨k, hk, by rw [hb]; exact Bool.false_ne_true⟩

/-- Asking the global monitor changes no answer of the map. -/
theorem OnlyAsked.unbacked (a : OnlyAsked s u) (h : Unbacked ks n addr s) : Unbacked ks n addr u where
  aligned := h.aligned
  unbacked := by simpa only [backed_congr a.map] using h.unbacked

/-! ## Bytes and patterns (R51) -/

/-- The low eight bits of a pattern are its first byte, the bits above are the pattern of the rest. -/
theorem joinBytes_cons_getLsbD (b : Byte) (bs : List Byte) {i : Nat} (hi : i < 32) :
    (joinBytes (b :: bs)).getLsbD i = if i < 8 then b.getLsbD i else (joinBytes bs).getLsbD (i - 8) := by
  rw [joinBytes, BitVec.getLsbD_or, BitVec.getLsbD_setWidth, BitVec.getLsbD_shiftLeft]
  split
  · simp [*]
  · simp [*, BitVec.getLsbD_of_ge b i (by omega)]

theorem joinBytes_four (b0 b1 b2 b3 : Byte) : joinBytes [b0, b1, b2, b3] = b3 ++ b2 ++ b1 ++ b0 := by
  refine BitVec.eq_of_getLsbD_eq fun i hi => ?_
  simp only [BitVec.getLsbD_append]
  rw [joinBytes_cons_getLsbD _ _ hi, joinBytes_cons_getLsbD _ _ (by omega), joinBytes_cons_getLsbD _ _ (by omega),
    joinBytes_cons_getLsbD _ _ (by omega), if_pos (show i - 8 - 8 - 8 < 8 by omega)]

theorem joinBytes_two (b0 b1 : Byte) : joinBytes [b0, b1] = (b1 ++ b0).setWidth 32 := by
  refine BitVec.eq_of_getLsbD_eq fun i hi => ?_
  rw [joinBytes_cons_getLsbD _ _ hi, joinBytes_cons_getLsbD _ _ (by omega), BitVec.getLsbD_setWidth,
    BitVec.getLsbD_append, decide_eq_true hi, Bool.true_and]
  split
  · rfl
  · split
    · rfl
    · simp [joinBytes, BitVec.getLsbD_of_ge b1 (i - 8) (by omega)]

/-- Byte `k` of a pattern is byte `k` of the list it was made of. -/
theorem joinBytes_byte {bs : List Byte} {k : Nat} (hl : bs.length ≤ 4) (hk : k < bs.length) :
    ((joinBytes bs) >>> (8 * k)).setWidth 8 = bs[k] := by
  refine BitVec.eq_of_getLsbD_eq fun j hj => ?_
  rw [BitVec.getLsbD_setWidth, BitVec.getLsbD_ushiftRight, decide_eq_true hj, Bool.true_and]
  induction bs generalizing k with
  | nil => simp at hk
  | cons b bs ih =>
    rw [List.length_cons] at hl hk
    rw [joinBytes_cons_getLsbD _ _ (by omega)]
    cases k with
    | zero => rw [if_pos (by omega)]; simp
    | succ k => rw [if_neg (by omega), show 8 * (k + 1) + j - 8 = 8 * k + j by omega, ih (by omega) (by omega),
      List.getElem_cons_succ]

/-! ## Holding a pattern -/

theorem holdsAt_of_readBytes {bs : List Byte} (hn : n ≤ 4) (h : s.mem.readBytes n addr.toNat = some bs) :
    HoldsAt n addr (joinBytes bs) s := by
  obtain ⟨rfl, hr⟩ := Memory.readBytes_eq_some.1 h
  intro i hi
  rw [hr i hi, joinBytes_byte hn hi, List.getElem?_eq_getElem hi]

theorem HoldsAt.readBytes (h : HoldsAt n addr v s) : s.mem.readBytes n addr.toNat = some (splitBytes n v) :=
  Memory.readBytes_eq_some.2 ⟨splitBytes_length n v, fun i hi => by rw [h i hi, splitBytes_getElem? v hi]⟩

/-- The bytes from the `k`-th on hold the rest of the pattern (R53). -/
theorem HoldsAt.part {m k : Nat} (h : HoldsAt n addr v s) (hk : k + m ≤ n) (hr : addr.toNat + n ≤ 2 ^ 32) :
    HoldsAt m (addr + BitVec.ofNat 32 k) (v >>> (8 * k)) s := by
  intro i hi
  have ha : (addr + BitVec.ofNat 32 k).toNat = addr.toNat + k := by
    rw [BitVec.toNat_add, BitVec.toNat_ofNat]; omega
  rw [ha, Nat.add_assoc, h (k + i) (by omega), ← BitVec.shiftRight_add, Nat.mul_add]

/-- A store leaves its pattern at its address and nothing else changed (R57, R46). -/
theorem storeBytes_stored (n : Nat) (addr v : Word) (s : State) : Stored n addr v s (storeBytes n addr v s) where
  bytes i hi := by rw [read_storeBytes, if_pos (by omega), Nat.add_sub_cancel_left]
  others a ha := by rw [read_storeBytes, if_neg (by omega)]
  stored a := by rw [storeBytes_storedSinceFenceI, AddrSet.mem_insertRange, or_comm]
  map := rfl

/-! ## What an access answers -/

theorem memRead_of_misaligned (h : addr.toNat % n ≠ 0) : memRead by' ks n addr s = .raises (misalignedFor by' addr) :=
  memRead_misaligned (naturallyAligned_eq_false.2 h)

theorem memRead_of_unbacked (h : Unbacked ks n addr s) : memRead by' ks n addr s = .raises (accessFaultFor by' addr) :=
  memRead_unbacked h.naturallyAligned_eq h.backedAll_eq

theorem memRead_of_readBytes {bs : List Byte} (h : Permitted ks n addr s)
    (hr : s.mem.readBytes n addr.toNat = some bs) : memRead by' ks n addr s = .value (joinBytes bs) :=
  memRead_value h.naturallyAligned_eq h.backedAll_eq hr

theorem memRead_of_holdsAt (h : Permitted ks n addr s) (hv : HoldsAt n addr v s) :
    memRead by' ks n addr s = .value (joinBytes (splitBytes n v)) :=
  memRead_of_readBytes h hv.readBytes

theorem memRead_word_of_holdsAt (h : Permitted ks 4 addr s) (hv : HoldsAt 4 addr v s) :
    memRead by' ks 4 addr s = .value v := by
  rw [memRead_of_holdsAt h hv, joinBytes_splitBytes_four]

theorem Memory.readBytes_eq_none {m : Memory} {a i : Nat} (hi : i < n) (h : m.read (a + i) = none) :
    m.readBytes n a = none := by
  refine Option.eq_none_iff_forall_ne_some.2 fun bs hbs => ?_
  obtain ⟨rfl, hr⟩ := Memory.readBytes_eq_some.1 hbs
  rw [hr i hi, List.getElem?_eq_getElem hi] at h
  cases h

theorem memRead_of_noValue {i : Nat} (h : Permitted ks n addr s) (hi : i < n) (hm : s.mem.read (addr.toNat + i) = none) :
    memRead by' ks n addr s = .faults (.memoryHoldsNoValue addr n) :=
  memRead_noValue h.naturallyAligned_eq h.backedAll_eq (Memory.readBytes_eq_none hi hm)

theorem memWrite_of_misaligned (h : addr.toNat % n ≠ 0) :
    memWrite ks n addr v s = .error (.storeAmoAddressMisaligned addr) :=
  memWrite_misaligned (naturallyAligned_eq_false.2 h)

theorem memWrite_of_unbacked (h : Unbacked ks n addr s) : memWrite ks n addr v s = .error (.storeAmoAccessFault addr) :=
  memWrite_unbacked h.naturallyAligned_eq h.backedAll_eq

/-! ## Loads, stores and `sc.w` -/

variable {i : Instr} {ilen : Word} {ext : Word → Word} {rd rs2 rs1 : Reg} {aq rl : Bool}

/-- An instruction that takes an exception, having asked the global monitor at most, traps. -/
theorem OnlyAsked.does (a : OnlyAsked s u) {e : Exception} (h : exec i s = .next (takeTrap e u)) :
    Does i s (Trapped e.code s) :=
  ⟨_, h, a.trapped e⟩

/-- An instruction that loads traps with code 4 at a misaligned address, with code 5 at an unbacked one. -/
theorem load_traps (hi : exec i s = loadOp ilen n ext rd addr s) :
    (addr.toNat % n ≠ 0 → Does i s (Trapped 4 s)) ∧ (Unbacked [.read] n addr s → Does i s (Trapped 5 s)) :=
  ⟨fun h => (OnlyAsked.refl s).does (hi.trans (loadOp_raises (memRead_of_misaligned h))),
    fun h => (OnlyAsked.refl s).does (hi.trans (loadOp_raises (memRead_of_unbacked h)))⟩

theorem exec_lrW_raises {e : Exception} (h : memRead .load exclusiveReadKinds 4 (readReg rs1 s) s = .raises e) :
    exec (.lrW rd rs1 aq rl) s = .next (takeTrap e s) := by
  simp only [exec, execLrW, h]

theorem exec_lrW_faults {f : Fault} (h : memRead .load exclusiveReadKinds 4 (readReg rs1 s) s = .faults f) :
    exec (.lrW rd rs1 aq rl) s = .fault f := by
  simp only [exec, execLrW, h]

/-- Settles O8: each load is `loadOp` of its width at its address; `lr.w` reads with both kinds (log 9). -/
theorem loadTraps : Obligations.LoadTraps := by
  intro s rd rs1 imm u7 u8 aq rl addr
  refine ⟨?_, ?_, ?_, ?_⟩ <;> rintro rfl
  · obtain ⟨lw4, lw5⟩ := load_traps (i := .lw rd imm rs1) (s := s) rfl
    obtain ⟨lh4, lh5⟩ := load_traps (i := .lh rd imm rs1) (s := s) rfl
    obtain ⟨lhu4, lhu5⟩ := load_traps (i := .lhu rd imm rs1) (s := s) rfl
    obtain ⟨-, lb5⟩ := load_traps (i := .lb rd imm rs1) (s := s) rfl
    obtain ⟨-, lbu5⟩ := load_traps (i := .lbu rd imm rs1) (s := s) rfl
    exact ⟨lw4, lw5, fun h => ⟨lh4 h, lhu4 h⟩, fun h => ⟨lh5 h, lhu5 h⟩, fun h => ⟨lb5 h, lbu5 h⟩⟩
  · exact load_traps rfl
  · exact load_traps rfl
  · exact ⟨fun h => (OnlyAsked.refl s).does (exec_lrW_raises (memRead_of_misaligned h)),
      fun h => (OnlyAsked.refl s).does (exec_lrW_raises (memRead_of_unbacked h))⟩

/-- An instruction that stores traps with code 6 at a misaligned address, with code 7 at an unbacked one. -/
theorem store_traps (hi : exec i s = storeOp ilen n addr v s) :
    (addr.toNat % n ≠ 0 → Does i s (Trapped 6 s)) ∧ (Unbacked [.write] n addr s → Does i s (Trapped 7 s)) :=
  ⟨fun h => (OnlyAsked.refl s).does (hi.trans (storeOp_error (memWrite_of_misaligned h))),
    fun h => (OnlyAsked.refl s).does (hi.trans (storeOp_error (memWrite_of_unbacked h)))⟩

theorem exec_scW_misaligned (h : (readReg rs1 s).toNat % 4 ≠ 0) :
    exec (.scW rd rs2 rs1 aq rl) s = .next (takeTrap (.storeAmoAddressMisaligned (readReg rs1 s)) s) := by
  simp [exec, execScW, naturallyAligned_eq_false.2 h]

/-- An `sc.w` whose write is answered `ok` raises what the write raises. -/
theorem storeConditional_raises {e : Exception} (hl : s.lm = true) (ha : writeAnswer s = .ok)
    (h : memWrite exclusiveWriteKinds 4 addr v (afterWriteAnswer s) = .error e) :
    storeConditional rd addr v s = takeTrap e (afterWriteAnswer s) := by
  simp [storeConditional, hl, ha, h]

theorem exec_scW_aligned (h : (readReg rs1 s).toNat % 4 = 0) :
    exec (.scW rd rs2 rs1 aq rl) s = .next (storeConditional rd (readReg rs1 s) (readReg rs2 s) s) := by
  simp [exec, execScW, naturallyAligned_eq_true.2 h]

theorem writeAnswer_of_cons {g : WriteAnswer} {writes : List WriteAnswer} (h : s.monitorWrites = g :: writes) :
    writeAnswer s = g := by
  simp only [writeAnswer, h]

/-- Settles O13: each store is `storeOp` of its width at its address; an `sc.w` writes with both kinds (log 9). -/
theorem storeTraps : Obligations.StoreTraps := by
  intro s rd rs2 rs1 imm u7 u8 aq rl addr writes
  refine ⟨?_, ?_, ?_, ?_⟩ <;> rintro rfl
  · obtain ⟨sw6, sw7⟩ := store_traps (i := .sw rs2 imm rs1) (s := s) rfl
    obtain ⟨sh6, sh7⟩ := store_traps (i := .sh rs2 imm rs1) (s := s) rfl
    obtain ⟨-, sb7⟩ := store_traps (i := .sb rs2 imm rs1) (s := s) rfl
    exact ⟨sw6, sw7, sh6, sh7, sb7⟩
  · exact store_traps rfl
  · exact store_traps rfl
  · refine ⟨fun h => (OnlyAsked.refl s).does (exec_scW_misaligned h), fun h hl hw => ?_⟩
    have asked : OnlyAsked s (afterWriteAnswer s) := (OnlyAsked.refl s).afterWriteAnswer
    have raises := storeConditional_raises (rd := rd) (v := readReg rs2 s) hl (writeAnswer_of_cons hw)
      (memWrite_of_unbacked (asked.unbacked h))
    exact asked.does ((exec_scW_aligned h.aligned).trans (congrArg _ raises))

/-! ## Mixed widths (R53) -/

/-- Settles O14: a part of what a store holds is a part of its value, and reads as that. -/
theorem mixedWidthLittleEndian : Obligations.MixedWidthLittleEndian := by
  intro s t a v
  refine ⟨fun b0 b1 b2 b3 hp hr => ?_, fun b0 b1 hp hr => ?_, fun hw => ?_, fun hw => ?_⟩
  · rw [memRead_of_readBytes hp hr, joinBytes_four]
  · rw [memRead_of_readBytes hp hr, joinBytes_two]
  · obtain ⟨ha, hb, rfl⟩ := memWrite_ok_inv hw
    have aligned : a.toNat % 4 = 0 := naturallyAligned_eq_true.1 ha
    have fits : a.toNat + 4 ≤ 2 ^ 32 := backedAll_range hb
    have held : HoldsAt 4 a v (storeBytes 4 a v s) := (storeBytes_stored 4 a v s).bytes
    refine ⟨held 0 (by decide), held 1 (by decide), held 2 (by decide), held 3 (by decide), fun hr => ?_, fun hr => ?_⟩
    · have inside : HoldsAt 1 (a + 1) (v >>> 8) _ := held.part (k := 1) (by decide) fits
      have permitted : Permitted [.read] 1 (a + 1) (storeBytes 4 a v s) := ⟨Nat.mod_one _, by simpa using hr⟩
      rw [memRead_of_holdsAt permitted inside, joinBytes_splitBytes_one]
      rfl
    · have inside : HoldsAt 2 (a + 2) (v >>> 16) _ := held.part (k := 2) (by decide) fits
      have even : (a + 2).toNat % 2 = 0 := by
        rw [BitVec.toNat_add, show (2 : Word).toNat = 2 from rfl]; omega
      have permitted : Permitted [.read] 2 (a + 2) (storeBytes 4 a v s) := ⟨even, by simpa using hr⟩
      rw [memRead_of_holdsAt permitted inside, joinBytes_splitBytes_two]
      rfl
  · obtain ⟨-, -, rfl⟩ := memWrite_ok_inv hw
    have held : HoldsAt 2 a v (storeBytes 2 a v s) := (storeBytes_stored 2 a v s).bytes
    exact ⟨held 0 (by decide), held 1 (by decide)⟩

end Sys2Proof.Machine
end

section
/-! PROOFS. AMOs (R62): reads of bytes without a value, theirs and all others, the accesses of an AMO that raise, and
what its attempts come to. -/

namespace Sys2Proof.Machine

open Sys2Proof

variable {s u t : State} {op : Word → Word → Word} {rd rs2 rs1 : Reg} {aq rl : Bool} {addr old src : Word}
  {retry : State → State}

/-! ## The nine AMOs -/

theorem minSigned_eq (a b : Word) : minSigned a b = if a.toInt < b.toInt then a else b := by
  simp only [minSigned, lessSigned, decide_eq_true_eq]

theorem maxSigned_eq (a b : Word) : maxSigned a b = if a.toInt < b.toInt then b else a := by
  simp only [maxSigned, lessSigned, decide_eq_true_eq]

theorem minUnsigned_eq (a b : Word) : minUnsigned a b = if a.toNat < b.toNat then a else b := by
  simp only [minUnsigned, lessUnsigned, decide_eq_true_eq]

theorem maxUnsigned_eq (a b : Word) : maxUnsigned a b = if a.toNat < b.toNat then b else a := by
  simp only [maxUnsigned, lessUnsigned, decide_eq_true_eq]

/-- Each AMO is `amoOp` of the operation R213 to R221 give it. -/
theorem exec_amoOperation {e : Instr × (Word → Word → Word)} (h : e ∈ amoOperations rd rs2 rs1 aq rl) (s : State) :
    exec e.1 s = amoOp e.2 rd rs2 rs1 s := by
  simp only [amoOperations, List.mem_cons, List.not_mem_nil, or_false] at h
  rcases h with rfl | rfl | rfl | rfl | rfl | rfl | rfl | rfl | rfl
  · rfl
  · rfl
  · rfl
  · rfl
  · rfl
  · exact congrArg (amoOp · rd rs2 rs1 s) (funext₂ minSigned_eq)
  · exact congrArg (amoOp · rd rs2 rs1 s) (funext₂ maxSigned_eq)
  · exact congrArg (amoOp · rd rs2 rs1 s) (funext₂ minUnsigned_eq)
  · exact congrArg (amoOp · rd rs2 rs1 s) (funext₂ maxUnsigned_eq)

theorem exec_amoInstr {i : Instr} (h : i ∈ amoInstrs rd rs2 rs1 aq rl) (s : State) :
    ∃ op, exec i s = amoOp op rd rs2 rs1 s := by
  have firsts : amoInstrs rd rs2 rs1 aq rl = (amoOperations rd rs2 rs1 aq rl).map Prod.fst := rfl
  obtain ⟨e, he, rfl⟩ := List.mem_map.1 (firsts ▸ h)
  exact ⟨e.2, exec_amoOperation he s⟩

/-! ## Reads of bytes that hold no value -/

theorem amoOp_faults {f : Fault} (h : memRead .storeAmo exclusiveReadKinds 4 (readReg rs1 s) s = .faults f) :
    amoOp op rd rs2 rs1 s = .fault f := by
  simp only [amoOp, h]

/-- An instruction that loads stops where a byte of a permitted range holds no value. -/
theorem load_noValue {i : Instr} {ilen : Word} {ext : Word → Word} {n k : Nat}
    (hi : exec i s = loadOp ilen n ext rd addr s) (hm : s.mem.read (addr.toNat + k) = none)
    (h : Permitted [.read] n addr s) (hk : k < n) : exec i s = .fault (.memoryHoldsNoValue addr n) :=
  hi.trans (loadOp_faults (memRead_of_noValue h hk hm))

/-- Settles O9: the value is the last that a read asks for, whichever instruction reads. -/
theorem loadOfNoValueFaults : Obligations.LoadOfNoValueFaults := by
  intro s rd rs2 rs1 imm u7 u8 aq rl addr k hm
  refine ⟨?_, ?_, ?_, ?_⟩ <;> rintro rfl
  · exact ⟨load_noValue rfl hm, fun h hk => ⟨load_noValue rfl hm h hk, load_noValue rfl hm h hk⟩,
      fun h hk => ⟨load_noValue rfl hm h hk, load_noValue rfl hm h hk⟩⟩
  · exact load_noValue rfl hm
  · exact load_noValue rfl hm
  · intro h hk
    refine ⟨exec_lrW_faults (memRead_of_noValue h hk hm), fun j hj => ?_⟩
    obtain ⟨op, hop⟩ := exec_amoInstr hj s
    exact hop.trans (amoOp_faults (memRead_of_noValue h hk hm))

/-! ## One attempt -/

theorem readAnswer_of_cons {g : ReadAnswer} {reads : List ReadAnswer} (h : s.monitorReads = g :: reads) :
    readAnswer s = g := by
  simp only [readAnswer, h]

theorem amoAttempt_refused (hr : readAnswer s = .refused) :
    amoAttempt op rd addr old src retry s = takeTrap (.storeAmoAccessFault addr) (afterReadAnswer s) := by
  simp only [amoAttempt, hr]

theorem amoAttempt_lost (hr : readAnswer s = .granted) (hw : writeAnswer (afterReadAnswer s) = .lost) :
    amoAttempt op rd addr old src retry s =
      retry (charge (.exactly 4) (afterWriteAnswer (afterReadAnswer s))) := by
  simp only [amoAttempt, hr, hw]

theorem amoAttempt_raises {e : Exception} (hr : readAnswer s = .granted) (hw : writeAnswer (afterReadAnswer s) = .ok)
    (h : memWrite exclusiveWriteKinds 4 addr (op old src) (afterWriteAnswer (afterReadAnswer s)) = .error e) :
    amoAttempt op rd addr old src retry s = takeTrap e (afterWriteAnswer (afterReadAnswer s)) := by
  simp only [amoAttempt, hr, hw, h]

/-- Any number of attempts begins with one. -/
theorem amoAttempts_eq_amoAttempt (op : Word → Word → Word) (rd : Reg) (addr old src : Word) (n : Nat) :
    ∃ retry, amoAttempts op rd addr old src n = amoAttempt op rd addr old src retry := by
  cases n with
  | zero => exact ⟨_, rfl⟩
  | succ n => exact ⟨_, rfl⟩

/-! ## Traps -/

/-- After `k` lost attempts a refused read raises the access fault, if that many attempts are made. -/
theorem amoAttempts_refused {k n : Nat} {reads : List ReadAnswer} {writes : List WriteAnswer} (hkn : k ≤ n)
    (asked : OnlyAsked s u) (hr : u.monitorReads = List.replicate k .granted ++ .refused :: reads)
    (hw : u.monitorWrites = List.replicate k .lost ++ writes) :
    ∃ v, OnlyAsked s v ∧ amoAttempts op rd addr old src n u = takeTrap (.storeAmoAccessFault addr) v := by
  induction k generalizing n u with
  | zero =>
    obtain ⟨retry, first⟩ := amoAttempts_eq_amoAttempt op rd addr old src n
    exact ⟨_, asked.afterReadAnswer, by rw [first, amoAttempt_refused (readAnswer_of_cons hr)]⟩
  | succ k ih =>
    obtain ⟨n, rfl⟩ : ∃ m, n = m + 1 := ⟨n - 1, by omega⟩
    rw [amoAttempts, amoAttempt_lost (readAnswer_of_cons hr) (writeAnswer_of_cons hw)]
    refine ih (by omega) (asked.afterReadAnswer.afterWriteAnswer.charge _) ?_ ?_
    · exact congrArg List.tail hr
    · exact congrArg List.tail hw

/-- Settles O21: the read raises, or after the lost attempts it is refused, or the write raises. -/
theorem amoTraps : Obligations.AmoTraps := by
  intro s rd rs2 rs1 aq rl addr old k reads writes ha i hi
  subst ha
  obtain ⟨op, hop⟩ := exec_amoInstr hi s
  have refl := OnlyAsked.refl s
  refine ⟨fun h => refl.does (hop.trans (amoOp_raises (memRead_of_misaligned h))),
    fun h => refl.does (hop.trans (amoOp_raises (memRead_of_unbacked h))), fun h hv hr hw => ?_,
    fun h hv hu hr hw => ?_⟩
  · have fuel : k ≤ s.monitorWrites.length := by simp [hw]
    obtain ⟨v, asked, trap⟩ := amoAttempts_refused fuel refl hr hw
    exact asked.does (by rw [hop, amoOp_value (memRead_word_of_holdsAt h hv), trap])
  · have asked : OnlyAsked s (afterWriteAnswer (afterReadAnswer s)) := refl.afterReadAnswer.afterWriteAnswer
    obtain ⟨retry, first⟩ := amoAttempts_eq_amoAttempt op rd (readReg rs1 s) old (readReg rs2 s)
      s.monitorWrites.length
    exact asked.does (by rw [hop, amoOp_value (memRead_word_of_holdsAt h hv), first, amoAttempt_raises
      (readAnswer_of_cons hr) (writeAnswer_of_cons hw) (memWrite_of_unbacked (asked.unbacked hu))])

/-! ## All or nothing -/

/-- What an AMO that read `old` comes to: it completes, traps, or has lost every attempt. -/
inductive AmoOutcome (rd : Reg) (addr old new : Word) (s : State) : State → Prop
  | completed {t : State} {n : Nat} {reads : List ReadAnswer} {writes : List WriteAnswer} (made : 0 < n)
      (did : DidAmo rd addr old new n reads writes s t) : AmoOutcome rd addr old new s t
  | trapped {u : State} {e : Exception} (asked : OnlyAsked s u) (code : e.code = 6 ∨ e.code = 7) :
      AmoOutcome rd addr old new s (takeTrap e u)
  | lost {u : State} (asked : OnlyAsked s u) : AmoOutcome rd addr old new s u

theorem OnlyAsked.trapped_six_or_seven (a : OnlyAsked s u) {e : Exception} (code : e.code = 6 ∨ e.code = 7) :
    Trapped 6 s (takeTrap e u) ∨ Trapped 7 s (takeTrap e u) := by
  have trap := a.trapped e
  rcases code with h | h
  · exact .inl (h ▸ trap)
  · exact .inr (h ▸ trap)

/-- A write to memory raises code 6 or 7. -/
theorem memWrite_error_code_eq {ks : List AccessKind} {n : Nat} {v : Word} {e : Exception}
    (h : memWrite ks n addr v s = .error e) : e.code = 6 ∨ e.code = 7 := by
  unfold memWrite at h
  split at h
  · cases h; exact .inl rfl
  · split at h
    · cases h; exact .inr rfl
    · cases h

/-- A read for a store or an AMO raises code 6 or 7. -/
theorem memRead_storeAmo_raises_code {ks : List AccessKind} {n : Nat} {e : Exception}
    (h : memRead .storeAmo ks n addr s = .raises e) : e.code = 6 ∨ e.code = 7 := by
  unfold memRead at h
  split at h
  · cases h; exact .inl rfl
  · split at h
    · cases h; exact .inr rfl
    · split at h <;> cases h

/-- What was stored after asking the global monitor was stored from the state before. -/
theorem OnlyAsked.stored_of_stored {n : Nat} {v : Word} (a : OnlyAsked s u) (h : Stored n addr v u t) :
    Stored n addr v s t where
  bytes := h.bytes
  others b hb := by rw [h.others b hb, a.mem]
  stored b := by rw [h.stored b, a.stored]
  map := h.map.trans a.map

theorem OnlyAsked.keepsMemory (a : OnlyAsked s u) : KeepsMemory s u := ⟨fun b => by rw [a.mem], a.stored, a.map⟩

theorem writeReg_wrote (rd : Reg) (v : Word) (s : State) : Wrote rd v (writeReg rd v s) := by
  unfold Wrote
  split
  · next h => rw [h, readReg_zero]
  · next h => exact readReg_writeReg_same s h v

/-- The end of an AMO after `n` lost attempts (R62, R415). -/
theorem didAmo_of_onlyAsked {n : Nat} {new : Word} (asked : OnlyAsked s u) (cycles : u.cycles = s.cycles + 4 * n) :
    DidAmo rd addr old new (n + 1) u.monitorReads u.monitorWrites s
      (charge (.exactly 4) (advance 4 (writeReg rd old (storeBytes 4 addr new u)))) where
  result := writeReg_wrote rd old _
  store := { asked.stored_of_stored (storeBytes_stored 4 addr new u) with }
  pc := by rw [charge_pc, advance_pc, writeReg_pc, storeBytes_pc, asked.pc]
  time := by rw [charge_exactly_cycles, advance_cycles, writeReg_cycles, storeBytes_cycles, cycles]; omega
  regs r hr := by
    rw [readReg_charge, readReg_advance, readReg_writeReg_other _ (List.ne_of_not_mem_cons hr),
      readReg_storeBytes, readReg_congr asked.regs]
  csrs := { asked.csrs with }
  lm := asked.lm
  reads := rfl
  writes := rfl

/-- One attempt, after `n` lost ones, has its outcome if what follows a lost attempt has. -/
theorem amoAttempt_outcome {n : Nat} (asked : OnlyAsked s u) (cycles : u.cycles = s.cycles + 4 * n)
    (hretry : ∀ v, OnlyAsked s v → v.cycles = s.cycles + 4 * (n + 1) → AmoOutcome rd addr old (op old src) s (retry v)) :
    AmoOutcome rd addr old (op old src) s (amoAttempt op rd addr old src retry u) := by
  have asked' := asked.afterReadAnswer.afterWriteAnswer
  rcases amoAttempt_cases op rd addr old src retry u with ⟨-, e⟩ | ⟨-, -, e⟩ | ⟨-, -, x, hx, e⟩ | ⟨-, -, -, -, e⟩
  · rw [e]; exact .trapped asked.afterReadAnswer (.inr rfl)
  · rw [e]; exact hretry _ (asked'.charge _) (by
      rw [charge_exactly_cycles, afterWriteAnswer_cycles, afterReadAnswer_cycles, cycles]; omega)
  · rw [e]; exact .trapped asked' (memWrite_error_code_eq hx)
  · rw [e]; exact .completed (Nat.succ_pos n) (didAmo_of_onlyAsked asked' cycles)

theorem amoAttempts_outcome {n : Nat} (m : Nat) (asked : OnlyAsked s u) (cycles : u.cycles = s.cycles + 4 * n) :
    AmoOutcome rd addr old (op old src) s (amoAttempts op rd addr old src m u) := by
  induction m generalizing u n with
  | zero => exact amoAttempt_outcome asked cycles fun v hv _ => .lost hv
  | succ m ih => exact amoAttempt_outcome asked cycles fun v hv hc => ih hv hc

/-- Settles O22: the read raises, or the attempts come to one of their outcomes. -/
theorem amoAllOrNothing : Obligations.AmoAllOrNothing := by
  intro s t rd rs2 rs1 aq rl addr ha e he h
  subst ha
  rw [exec_amoOperation he] at h
  cases hm : memRead .storeAmo exclusiveReadKinds 4 (readReg rs1 s) s with
  | raises x =>
    rw [amoOp_raises hm] at h
    cases h
    exact .inr (or_assoc.1 (.inl ((OnlyAsked.refl s).trapped_six_or_seven (memRead_storeAmo_raises_code hm))))
  | faults f =>
    rw [amoOp_faults hm] at h
    cases h
  | value old =>
    rw [amoOp_value hm] at h
    obtain ⟨-, -, bs, hbs, rfl⟩ := memRead_value_inv hm
    have outcome := amoAttempts_outcome (op := e.2) (rd := rd) (addr := readReg rs1 s) (old := joinBytes bs)
      (src := readReg rs2 s) (n := 0) s.monitorWrites.length (.refl s) rfl
    rw [Host.Outcome.next.inj h] at outcome
    cases outcome with
    | completed made did => exact .inl ⟨_, _, _, _, holdsAt_of_readBytes (by decide) hbs, made, did⟩
    | trapped asked code => exact .inr (or_assoc.1 (.inl (asked.trapped_six_or_seven code)))
    | lost asked =>
      exact .inr (.inr (.inr ⟨asked.pc, fun r _ => readReg_congr asked.regs r, asked.csrs, asked.keepsMemory, asked.lm⟩))

end Sys2Proof.Machine
end

section
/-! PROOFS. The fetch: what a parcel's fetch answers, and the step where a parcel stops it or both are fetched. -/

namespace Sys2Proof.Machine

open Sys2Proof

variable {s : State} {pc addr : Word} {b0 b1 : Byte}

/-! ## One parcel (R59, R67) -/

theorem touchesSet_two (t : AddrSet) (a : Nat) : touchesSet t a 2 = true ↔ a ∈ t ∨ a + 1 ∈ t := by
  simp only [touchesSet, List.any_eq_true, Bool.and_eq_true, decide_eq_true_eq]
  constructor
  · rintro ⟨b, hb, hle, hlt⟩
    obtain rfl | rfl : b = a ∨ b = a + 1 := by omega
    · exact .inl hb
    · exact .inr hb
  · rintro (h | h)
    · exact ⟨a, h, by omega⟩
    · exact ⟨a + 1, h, by omega⟩

theorem fetchParcel_unbacked (hb : backed .fetch 2 addr s = false) :
    fetchParcel pc addr s = .raises (.instructionAccessFault pc) := by
  simp [fetchParcel, hb]

theorem fetchParcel_stored (hb : backed .fetch 2 addr s = true)
    (ht : addr.toNat ∈ s.storedSinceFenceI ∨ addr.toNat + 1 ∈ s.storedSinceFenceI) :
    fetchParcel pc addr s = .refuses (.fetchOfStoredBytes addr) := by
  simp [fetchParcel, hb, (touchesSet_two _ _).2 ht]

theorem touchesSet_two_eq_false {t : AddrSet} {a : Nat} (h0 : a ∉ t) (h1 : a + 1 ∉ t) : touchesSet t a 2 = false := by
  rw [← Bool.not_eq_true, touchesSet_two]
  exact not_or.2 ⟨h0, h1⟩

theorem fetchParcel_noValue (hb : backed .fetch 2 addr s = true) (h0 : addr.toNat ∉ s.storedSinceFenceI)
    (h1 : addr.toNat + 1 ∉ s.storedSinceFenceI)
    (hm : s.mem.read addr.toNat = none ∨ s.mem.read (addr.toNat + 1) = none) :
    fetchParcel pc addr s = .faults (.memoryHoldsNoValue addr 2) := by
  have hread : s.mem.readBytes 2 addr.toNat = none := by
    rcases hm with h | h
    · exact Memory.readBytes_eq_none (i := 0) (by decide) h
    · exact Memory.readBytes_eq_none (i := 1) (by decide) h
  simp [fetchParcel, hb, touchesSet_two_eq_false h0 h1, hread]

theorem fetchParcel_got (hb : backed .fetch 2 addr s = true) (h0 : addr.toNat ∉ s.storedSinceFenceI)
    (h1 : addr.toNat + 1 ∉ s.storedSinceFenceI) (m0 : s.mem.read addr.toNat = some b0)
    (m1 : s.mem.read (addr.toNat + 1) = some b1) : fetchParcel pc addr s = .got (parcelOf b0 b1) := by
  have hread : s.mem.readBytes 2 addr.toNat = some [b0, b1] := by simp only [Memory.readBytes, m0, m1]
  simp [fetchParcel, hb, touchesSet_two_eq_false h0 h1, hread]

/-- Each parcel of the code at the pc is fetched. -/
theorem CodeAt.fetchParcel_parcel {bs : List Byte} (h : CodeAt bs s) {i : Nat} (even : i % 2 = 0)
    (hi : i + 1 < bs.length) :
    fetchParcel pc (s.pc + BitVec.ofNat 32 i) s = .got (parcelOf bs[i] bs[i + 1]) := by
  have ha : (s.pc + BitVec.ofNat 32 i).toNat = s.pc.toNat + i := by
    have := h.fits
    rw [BitVec.toNat_add, BitVec.toNat_ofNat]; omega
  refine fetchParcel_got (h.backed i (by omega) even) ?_ ?_ ?_ ?_ <;> rw [ha]
  · exact h.unstored i (by omega)
  · exact h.unstored (i + 1) hi
  · exact h.holds i (by omega)
  · exact h.holds (i + 1) hi

theorem CodeAt.fetchParcel_first {bs : List Byte} (h : CodeAt (b0 :: b1 :: bs) s) :
    fetchParcel s.pc s.pc s = .got (parcelOf b0 b1) := by
  simpa using h.fetchParcel_parcel (pc := s.pc) (i := 0) rfl (by simp)

/-! ## Steps that a fetch stops -/

/-- What a step answers where a fetch answers this and gives no value. -/
def Fetched.stop {α : Type} (s : State) : Fetched α → Option Result
  | .got _ => none
  | .raises e => some (.next (takeTrap e s))
  | .refuses r => some (.refused r)
  | .faults f => some (.fault f)

theorem step_of_fetchBytes_stop {r : Result} (h : (fetchBytes s).stop s = some r) : step s = r := by
  unfold step fetchInstr
  cases hf : fetchBytes s with
  | got bs => rw [hf] at h; cases h
  | raises e | refuses x | faults f => rw [hf] at h; exact Option.some.inj h

theorem step_of_first_stop {r : Result} (h : (fetchParcel s.pc s.pc s).stop s = some r) : step s = r := by
  refine step_of_fetchBytes_stop ?_
  unfold fetchBytes
  cases hf : fetchParcel s.pc s.pc s with
  | got low => rw [hf] at h; cases h
  | raises e | refuses x | faults f => rw [hf] at h; exact h

theorem step_of_second_stop {r : Result} {low : Half} (hl : fetchParcel s.pc s.pc s = .got low)
    (long : isLong low = true) (hpc : s.pc ≠ 0xFFFFFFFE#32) (h : (fetchParcel s.pc (s.pc + 2) s).stop s = some r) :
    step s = r := by
  refine step_of_fetchBytes_stop ?_
  simp only [fetchBytes, hl, long, hpc, Bool.not_true, Bool.false_eq_true, if_false]
  cases hf : fetchParcel s.pc (s.pc + 2) s with
  | got high => rw [hf] at h; cases h
  | raises e | refuses x | faults f => rw [hf] at h; exact h

theorem step_of_straddle {low : Half} (hl : fetchParcel s.pc s.pc s = .got low) (long : isLong low = true)
    (hpc : s.pc = 0xFFFFFFFE#32) : step s = .refused .fetchStraddlesTop := by
  refine step_of_fetchBytes_stop ?_
  rw [hpc] at hl
  simp [fetchBytes, hl, long, hpc, Fetched.stop]

/-- Settles O45: the trap is taken from the state before the step, so `mepc` takes its pc. -/
theorem fetchAccessFaultTraps : Obligations.FetchAccessFaultTraps := by
  intro s
  have trap : Trapped 1 s (takeTrap (.instructionAccessFault s.pc) s) :=
    (OnlyAsked.refl s).trapped (.instructionAccessFault s.pc)
  refine ⟨fun hb => ⟨_, step_of_first_stop ?_, trap⟩, fun b0 b1 code long hpc hb =>
    ⟨_, step_of_second_stop code.fetchParcel_first long hpc ?_, trap⟩⟩
  · rw [fetchParcel_unbacked hb]; rfl
  · rw [fetchParcel_unbacked hb]; rfl

/-- Settles O46: a parcel is refused before its values are asked for, the first before the second. -/
theorem fetchRefusals : Obligations.FetchRefusals := by
  intro s
  refine ⟨fun hb ht => step_of_first_stop ?_, fun hb h0 h1 hm => step_of_first_stop ?_, fun b0 b1 code long => ?_⟩
  · rw [fetchParcel_stored hb ht]; rfl
  · rw [fetchParcel_noValue hb h0 h1 hm]; rfl
  · have first := code.fetchParcel_first
    refine ⟨step_of_straddle first long, fun hpc hb ht => step_of_second_stop first long hpc ?_,
      fun hpc hb h0 h1 hm => step_of_second_stop first long hpc ?_⟩
    · rw [fetchParcel_stored hb ht]; rfl
    · rw [fetchParcel_noValue hb h0 h1 hm]; rfl

/-! ## Steps that fetch an instruction -/

/-- The bytes of a parcel are those it was made of (R52). -/
theorem parcelBytes_parcelOf (b0 b1 : Byte) : parcelBytes (parcelOf b0 b1) = [b0, b1] := by
  have low : (b1 ++ b0).setWidth 8 = b0 := by
    rw [BitVec.setWidth_append]; simp
  have high : ((b1 ++ b0) >>> 8).setWidth 8 = b1 := by
    refine BitVec.eq_of_getLsbD_eq fun i hi => ?_
    rw [BitVec.getLsbD_setWidth, BitVec.getLsbD_ushiftRight, BitVec.getLsbD_append]
    simp [hi]
  rw [parcelBytes, parcelOf, low, high]

/-- Bytes decode to an instruction and nothing left over where there are as many as the first parcel says. -/
theorem decode_ok_nil {bs : List Byte} {i : Instr} (h : decode bs = .ok (i, [])) :
    (∃ b0 b1, bs = [b0, b1] ∧ isLong (parcelOf b0 b1) = false) ∨
    (∃ b0 b1 b2 b3, bs = [b0, b1, b2, b3] ∧ isLong (parcelOf b0 b1) = true) := by
  unfold decode at h
  split at h
  · next b0 b1 rest =>
    dsimp only at h
    split at h
    · next long =>
      split at h
      · next b2 b3 rest' =>
        split at h
        · cases h; exact .inr ⟨b0, b1, b2, b3, rfl, long⟩
        · cases h
      · cases h
    · next short =>
      split at h
      · cases h; exact .inl ⟨b0, b1, rfl, Bool.eq_false_of_not_eq_true short⟩
      · cases h
  · cases h

theorem CodeAt.fetchBytes_short (h : CodeAt [b0, b1] s) (short : isLong (parcelOf b0 b1) = false) :
    fetchBytes s = .got [b0, b1] := by
  simp [fetchBytes, h.fetchParcel_first, short, parcelBytes_parcelOf]

theorem CodeAt.fetchBytes_long {b2 b3 : Byte} (h : CodeAt [b0, b1, b2, b3] s) (long : isLong (parcelOf b0 b1) = true) :
    fetchBytes s = .got [b0, b1, b2, b3] := by
  have second : fetchParcel s.pc (s.pc + 2) s = .got (parcelOf b2 b3) :=
    h.fetchParcel_parcel (i := 2) rfl (Nat.lt_succ_self 3)
  have hpc : s.pc ≠ 0xFFFFFFFE#32 := by
    intro e
    have fits : s.pc.toNat + 4 ≤ 2 ^ 32 := h.fits
    rw [e] at fits
    exact absurd fits (by decide)
  simp only [fetchBytes, h.fetchParcel_first, long, hpc, second, parcelBytes_parcelOf, Bool.not_true,
    Bool.false_eq_true, if_false, List.cons_append, List.nil_append]

theorem fetchInstr_of_decode {bs rest : List Byte} {i : Instr} (hb : fetchBytes s = .got bs)
    (hd : decode bs = .ok (i, rest)) : fetchInstr s = .got i := by
  simp only [fetchInstr, hb, hd]

/-- Settles O43: the bytes that decode are the ones the fetch gives. -/
theorem stepRunsDecodedInstruction : Obligations.StepRunsDecodedInstruction := by
  intro s bs i code hd
  refine step_of_fetch (fetchInstr_of_decode ?_ hd)
  rcases decode_ok_nil hd with ⟨b0, b1, rfl, short⟩ | ⟨b0, b1, b2, b3, rfl, long⟩
  · exact code.fetchBytes_short short
  · exact code.fetchBytes_long long

end Sys2Proof.Machine
end

section
/-! PROOFS. Operand layouts: which bits of an encoding hold an operand, how it is read from them and written to them
(R82 to R91, R241). A layout of several operands, or of an immediate in several pieces, is put together from those of
its parts; that reading and writing are inverse is proved once for each way of putting together. -/

namespace Sys2Proof

/-! ## Register numbers, and bits of bits -/

theorem regField_regOf (f : BitVec 5) : regField (regOf f) = f := by
  simp [regField, regOf]

theorem primeField_primeOf (f : BitVec 3) : primeField (primeOf f) = f := by
  simp [primeField, primeOf]

theorem extractLsb'_extractLsb' {n : Nat} (v : BitVec n) (s k s' k' : Nat) (h : s + k ≤ k') :
    (v.extractLsb' s' k').extractLsb' s k = v.extractLsb' (s' + s) k := by
  refine BitVec.eq_of_getLsbD_eq fun i hi => ?_
  simp only [BitVec.getLsbD_extractLsb', show s + i < k' by omega, hi, decide_true, Bool.true_and, Nat.add_assoc]

/-- A multiple of `2 ^ k` has `k` low bits 0. -/
theorem aligned_iff {n : Nat} (k : Nat) (v : BitVec n) : aligned k v = true ↔ v.extractLsb' 0 k = 0 := by
  rw [← BitVec.toNat_inj]
  simp [aligned, BitVec.extractLsb'_toNat]

theorem ofBool_getLsbD {n : Nat} (v : BitVec n) (i : Nat) : BitVec.ofBool (v.getLsbD i) = v.extractLsb' i 1 := by
  refine BitVec.eq_of_getLsbD_eq fun j hj => ?_
  obtain rfl : j = 0 := by omega
  simp

theorem bits_or_left_comm {n : Nat} (a b c : BitVec n) : a ||| (b ||| c) = b ||| (a ||| c) := by
  rw [← BitVec.or_assoc, BitVec.or_comm a, BitVec.or_assoc]

/-! ## Layouts -/

/-- Where the operands `α` stand in an encoding of `n` bits: the bits that hold them, how they are read and written, and
which of them those bits can hold. -/
structure Layout (n : Nat) (α : Type) where
  bits : BitVec n
  read : BitVec n → α
  write : α → BitVec n
  valid : α → Prop
  valid_read : ∀ w, valid (read w)
  write_read : ∀ w, write (read w) = w &&& bits
  read_write : ∀ a, valid a → read (write a) = a

namespace Layout

variable {n : Nat} {α β : Type} (L : Layout n α) {a : α} {v w : BitVec n}

/-- A layout reads its own bits only. -/
theorem read_and_bits (w : BitVec n) : L.read (w &&& L.bits) = L.read w := by
  rw [← L.write_read, L.read_write _ (L.valid_read w)]

theorem read_congr (h : v &&& L.bits = w &&& L.bits) : L.read v = L.read w := by
  rw [← L.read_and_bits v, h, L.read_and_bits]

/-- A layout writes its own bits only. -/
theorem write_and_bits (ha : L.valid a) : L.write a &&& L.bits = L.write a := by
  rw [← L.write_read, L.read_write a ha]

theorem and_bits_eq_write_iff (ha : L.valid a) : w &&& L.bits = L.write a ↔ L.read w = a := by
  constructor <;> intro h
  · rw [← L.read_and_bits, h, L.read_write a ha]
  · rw [← h, L.write_read]

/-- A test of a layout's bits is a test of the operands there. -/
theorem bne_read [DecidableEq α] {m c : BitVec n} (a : α) (ha : L.valid a) (w : BitVec n)
    (hm : m = L.bits := by decide) (hc : c = L.write a := by decide) : (w &&& m != c) = (L.read w != a) := by
  rw [Bool.eq_iff_iff, hm, hc]
  simp [L.and_bits_eq_write_iff ha]

/-! ## Two layouts on disjoint bits -/

variable {L} {M : Layout n β}

theorem write_and_eq_zero (ha : L.valid a) (h : L.bits &&& v = 0) : L.write a &&& v = 0 := by
  rw [← L.write_and_bits ha, BitVec.and_assoc, h]; simp

theorem read_or (h : v &&& L.bits = 0) : L.read (w ||| v) = L.read w :=
  L.read_congr (by rw [BitVec.and_or_distrib_right, h]; simp)

/-- Two operands, on disjoint bits. -/
def both (L : Layout n α) (M : Layout n β) (disjoint : L.bits &&& M.bits = 0 := by decide) : Layout n (α × β) where
  bits := L.bits ||| M.bits
  read w := (L.read w, M.read w)
  write a := L.write a.1 ||| M.write a.2
  valid a := L.valid a.1 ∧ M.valid a.2
  valid_read w := ⟨L.valid_read w, M.valid_read w⟩
  write_read w := by rw [L.write_read, M.write_read, BitVec.and_or_distrib_left]
  read_write a ha := by
    obtain ⟨hl, hm⟩ := ha
    have left : M.write a.2 &&& L.bits = 0 := write_and_eq_zero hm (by rwa [BitVec.and_comm])
    have right : L.write a.1 &&& M.bits = 0 := write_and_eq_zero hl disjoint
    refine Prod.ext ?_ ?_
    · exact (read_or left).trans (L.read_write _ hl)
    · exact (congrArg M.read (BitVec.or_comm ..)).trans ((read_or right).trans (M.read_write _ hm))

/-! ## Other readings of the same bits -/

/-- Operands named by other operands: `f` and `g` are inverse where both are valid. -/
def map (L : Layout n α) (f : α → β) (g : β → α) (valid : β → Prop)
    (hf : ∀ a, L.valid a → valid (f a) ∧ g (f a) = a) (hg : ∀ b, valid b → L.valid (g b) ∧ f (g b) = b) :
    Layout n β where
  bits := L.bits
  read w := f (L.read w)
  write b := L.write (g b)
  valid := valid
  valid_read w := (hf _ (L.valid_read w)).1
  write_read w := by rw [(hf _ (L.valid_read w)).2, L.write_read]
  read_write b hb := by rw [L.read_write _ (hg b hb).1, (hg b hb).2]

/-- A bit vector of two pieces, the high one first. -/
def glue {k l : Nat} (L : Layout n (BitVec k)) (M : Layout n (BitVec l))
    (disjoint : L.bits &&& M.bits = 0 := by decide) : Layout n (BitVec (k + l)) :=
  (both L M disjoint).map (fun a => a.1 ++ a.2) (fun b => (b.extractLsb' l k, b.extractLsb' 0 l))
    (fun b => L.valid (b.extractLsb' l k) ∧ M.valid (b.extractLsb' 0 l))
    (fun _ ha => by
      simp only [BitVec.extractLsb'_append_eq_left, BitVec.extractLsb'_append_eq_right]; exact ⟨ha, trivial⟩)
    (fun _ hb => ⟨hb, BitVec.extractLsb'_append_extractLsb'⟩)

theorem glue_write {k l : Nat} (L : Layout n (BitVec k)) (M : Layout n (BitVec l)) (h : L.bits &&& M.bits = 0)
    (v : BitVec (k + l)) :
    (glue L M h).write v = L.write (v.extractLsb' l k) ||| M.write (v.extractLsb' 0 l) := rfl

@[simp] theorem glue_valid {k l : Nat} (L : Layout n (BitVec k)) (M : Layout n (BitVec l)) (h : L.bits &&& M.bits = 0)
    (v : BitVec (k + l)) :
    (glue L M h).valid v ↔ L.valid (v.extractLsb' l k) ∧ M.valid (v.extractLsb' 0 l) := Iff.rfl

/-! ## The parts -/

/-- No operand. -/
def empty : Layout n Unit where
  bits := 0
  read _ := ()
  write _ := 0
  valid _ := True
  valid_read _ := trivial
  write_read _ := by simp
  read_write _ _ := rfl

/-- The `k` bits from bit `lo` up. -/
def slice (lo k : Nat) (hn : lo + k ≤ n := by decide) : Layout n (BitVec k) where
  bits := place n (BitVec.allOnes k) lo
  read w := w.extractLsb' lo k
  write f := place n f lo
  valid _ := True
  valid_read _ := trivial
  write_read w := by
    refine BitVec.eq_of_getLsbD_eq fun i hi => ?_
    rw [BitVec.getLsbD_and, place_bit _ _ i hi, place_bit _ _ i hi, BitVec.getLsbD_extractLsb', BitVec.getLsbD_allOnes]
    by_cases h : lo ≤ i
    · rw [show lo + (i - lo) = i by omega]; simp [h, Bool.and_comm]
    · simp [h]
  read_write f _ := by
    refine BitVec.eq_of_getLsbD_eq fun i hi => ?_
    rw [BitVec.getLsbD_extractLsb', place_bit _ _ (lo + i) (by omega), Nat.add_sub_cancel_left]
    simp [hi]

theorem slice_write (lo k : Nat) (h : lo + k ≤ n) (f : BitVec k) : (slice lo k h).write f = place n f lo := rfl

@[simp] theorem slice_valid (lo k : Nat) (h : lo + k ≤ n) (f : BitVec k) : (slice lo k h).valid f ↔ True := Iff.rfl

/-- One bit as a truth value (R90). -/
def bit (i : Nat) (hn : i + 1 ≤ n := by decide) : Layout n Bool where
  bits := (slice i 1 hn).bits
  read w := w.getLsbD i
  write b := place n (BitVec.ofBool b) i
  valid _ := True
  valid_read _ := trivial
  write_read w := by
    rw [ofBool_getLsbD]
    exact (slice i 1 hn).write_read w
  read_write b _ := by rw [place_bit _ _ i hn]; simp

/-- An immediate in pieces, its `z` low bits 0 and left out. `write` places the pieces in the encoder's order, which
need not be the one they are read in. -/
def padded {k : Nat} (z : Nat) (L : Layout n (BitVec k)) (write : BitVec (k + z) → BitVec n)
    (hv : ∀ f, L.valid f := by simp)
    (hw : ∀ v, write v = L.write (v.extractLsb' z k) := by
      intro v
      simp (disch := decide) only [putUimmWord, putJump, putBranch, glue_write, slice_write, extractLsb'_extractLsb',
        BitVec.extractLsb]
      dsimp only [Nat.reduceAdd, Nat.reduceSub]
      simp only [BitVec.or_assoc, BitVec.or_comm, bits_or_left_comm]) : Layout n (BitVec (k + z)) where
  bits := L.bits
  read w := L.read w ++ 0#z
  write := write
  valid v := aligned z v = true
  valid_read w := (aligned_iff z _).2 BitVec.extractLsb'_append_eq_right
  write_read w := by rw [hw, BitVec.extractLsb'_append_eq_left, L.write_read]
  read_write v h := by
    rw [hw, L.read_write _ (hv _), ← show v.extractLsb' 0 z = 0#z from (aligned_iff z v).1 h]
    exact BitVec.extractLsb'_append_extractLsb'

/-- A register number in a five-bit field (R105). -/
def reg (L : Layout n (BitVec 5)) (hv : ∀ f, L.valid f := by simp) : Layout n Reg :=
  L.map regOf regField (fun _ => True) (fun f _ => ⟨trivial, regField_regOf f⟩) fun r _ => ⟨hv _, regOf_regField r⟩

/-- The number of one of `x8` to `x15` in a three-bit field (R241). -/
def primeReg (L : Layout n (BitVec 3)) (hv : ∀ f, L.valid f := by simp) : Layout n Reg :=
  L.map primeOf primeField (fun r => isPrime r = true) (fun f _ => ⟨isPrime_primeOf f, primeField_primeOf f⟩)
    fun _ hr => ⟨hv _, primeOf_primeField hr⟩

/-! ## The range of a layout put together -/

@[simp] theorem both_valid (h : L.bits &&& M.bits = 0) (a : α × β) :
    (both L M h).valid a ↔ L.valid a.1 ∧ M.valid a.2 := Iff.rfl

@[simp] theorem empty_valid (a : Unit) : (empty (n := n)).valid a ↔ True := Iff.rfl

@[simp] theorem bit_valid (i : Nat) (h : i + 1 ≤ n) (b : Bool) : (bit i h).valid b ↔ True := Iff.rfl

@[simp] theorem reg_valid (L : Layout n (BitVec 5)) (hv : ∀ f, L.valid f) (r : Reg) : (L.reg hv).valid r ↔ True :=
  Iff.rfl

@[simp] theorem primeReg_valid (L : Layout n (BitVec 3)) (hv : ∀ f, L.valid f) (r : Reg) :
    (L.primeReg hv).valid r ↔ isPrime r = true := Iff.rfl

@[simp] theorem padded_valid {k z : Nat} (L : Layout n (BitVec k)) (write : BitVec (k + z) → BitVec n)
    (hv : ∀ f, L.valid f) (hw : ∀ v, write v = L.write (v.extractLsb' z k)) (v : BitVec (k + z)) :
    (padded z L write hv hw).valid v ↔ aligned z v = true := Iff.rfl

end Layout
end Sys2Proof
end

section
/-! PROOFS. The form of every row of the opcode table: the layout of its operands and the instruction they make. A row
has its form if it builds that instruction of what the layout reads, its mask is the bits that the layout leaves, and
the encoder writes the layout (R82 to R94, R241 to R269). -/

namespace Sys2Proof

open Layout

/-- Operands, their layout, and the instruction they make. -/
structure Form (n : Nat) where
  Operands : Type
  layout : Layout n Operands
  instr : Operands → Instr

/-! ## Width 32 (R82 to R91) -/

abbrev rdAt : Layout 32 Reg := (slice 7 5).reg
abbrev rs1At : Layout 32 Reg := (slice 15 5).reg
abbrev rs2At : Layout 32 Reg := (slice 20 5).reg
abbrev immIAt : Layout 32 (BitVec 12) := slice 20 12
abbrev immSAt : Layout 32 (BitVec 12) := (slice 25 7).glue (slice 7 5)

abbrev immBAt : Layout 32 (BitVec 13) :=
  padded 1 ((slice 31 1).glue (slice 7 1) |>.glue (slice 25 6) |>.glue (slice 8 4)) fun imm =>
    place 32 (imm.extractLsb 12 12) 31 ||| (place 32 (imm.extractLsb 10 5) 25
      ||| (place 32 (imm.extractLsb 4 1) 8 ||| place 32 (imm.extractLsb 11 11) 7))

abbrev immJAt : Layout 32 (BitVec 21) :=
  padded 1 ((slice 31 1).glue (slice 12 8) |>.glue (slice 20 1) |>.glue (slice 21 10)) fun imm =>
    place 32 (imm.extractLsb 20 20) 31 ||| (place 32 (imm.extractLsb 10 1) 21
      ||| (place 32 (imm.extractLsb 11 11) 20 ||| place 32 (imm.extractLsb 19 12) 12))

namespace Form

def typeR (k : Reg → Reg → Reg → Instr) : Form 32 := ⟨_, rdAt.both (rs1At.both rs2At), fun a => k a.1 a.2.1 a.2.2⟩
def unary (k : Reg → Reg → Instr) : Form 32 := ⟨_, rdAt.both rs1At, fun a => k a.1 a.2⟩
def typeI (k : Reg → Reg → BitVec 12 → Instr) : Form 32 :=
  ⟨_, rdAt.both (rs1At.both immIAt), fun a => k a.1 a.2.1 a.2.2⟩
/-- Loads, and the CSR form with a register (R83, R89). -/
def load (k : Reg → BitVec 12 → Reg → Instr) : Form 32 := typeI fun rd rs1 imm => k rd imm rs1
def shift (k : Reg → Reg → BitVec 5 → Instr) : Form 32 :=
  ⟨_, rdAt.both (rs1At.both (slice 20 5)), fun a => k a.1 a.2.1 a.2.2⟩
def typeS (k : Reg → BitVec 12 → Reg → Instr) : Form 32 :=
  ⟨_, rs1At.both (rs2At.both immSAt), fun a => k a.2.1 a.2.2 a.1⟩
def typeB (k : Reg → Reg → BitVec 13 → Instr) : Form 32 :=
  ⟨_, rs1At.both (rs2At.both immBAt), fun a => k a.1 a.2.1 a.2.2⟩
def typeU (k : Reg → BitVec 20 → Instr) : Form 32 := ⟨_, rdAt.both (slice 12 20), fun a => k a.1 a.2⟩
def typeJ (k : Reg → BitVec 21 → Instr) : Form 32 := ⟨_, rdAt.both immJAt, fun a => k a.1 a.2⟩
def csrImm (k : Reg → BitVec 12 → BitVec 5 → Instr) : Form 32 :=
  ⟨_, rdAt.both ((slice 15 5).both immIAt), fun a => k a.1 a.2.2 a.2.1⟩
def atomic (k : Reg → Reg → Reg → Bool → Bool → Instr) : Form 32 :=
  ⟨_, rdAt.both (rs1At.both (rs2At.both ((bit 26).both (bit 25)))), fun a => k a.1 a.2.2.1 a.2.1 a.2.2.2.1 a.2.2.2.2⟩
def lr : Form 32 := ⟨_, rdAt.both (rs1At.both ((bit 26).both (bit 25))), fun a => .lrW a.1 a.2.1 a.2.2.1 a.2.2.2⟩
def fence : Form 32 :=
  ⟨_, rdAt.both (rs1At.both ((slice 28 4).both ((slice 24 4).both (slice 20 4)))),
    fun a => .fence a.2.2.1 a.2.2.2.1 a.2.2.2.2 a.2.1 a.1⟩
def fenceI : Form 32 := typeI fun rd rs1 imm => .fenceI imm rs1 rd
/-- An instruction without operands, in either width. -/
def fixed {n : Nat} (i : Instr) : Form n := ⟨_, empty, fun _ => i⟩

theorem fixed_instr {n : Nat} (i : Instr) (a : (fixed (n := n) i).Operands) : (fixed i).instr a = i := rfl

theorem fixed_write {n : Nat} (i : Instr) (a : (fixed (n := n) i).Operands) : (fixed i).layout.write a = 0#n := rfl

end Form

def formsInteger : List (Form 32) := [
  .typeR .add, .typeR .sub, .typeR .slt, .typeR .sltu, .typeR .and, .typeR .or, .typeR .xor, .typeR .sll,
  .typeR .srl, .typeR .sra, .typeI .addi, .typeI .slti, .typeI .sltiu, .typeI .andi, .typeI .ori, .typeI .xori,
  .shift .slli, .shift .srli, .shift .srai, .typeU .lui, .typeU .auipc ]

def formsControl : List (Form 32) := [
  .typeJ .jal, .typeI .jalr, .typeB .beq, .typeB .bne, .typeB .blt, .typeB .bge, .typeB .bltu, .typeB .bgeu ]

def formsMemory : List (Form 32) := [
  .load .lw, .load .lh, .load .lhu, .load .lb, .load .lbu, .typeS .sw, .typeS .sh, .typeS .sb ]

def formsM : List (Form 32) := [
  .typeR .mul, .typeR .mulh, .typeR .mulhsu, .typeR .mulhu, .typeR .div, .typeR .divu, .typeR .rem, .typeR .remu ]

def formsA : List (Form 32) := [
  .lr, .atomic .scW, .atomic .amoswapW, .atomic .amoaddW, .atomic .amoxorW, .atomic .amoandW, .atomic .amoorW,
  .atomic .amominW, .atomic .amomaxW, .atomic .amominuW, .atomic .amomaxuW ]

def formsSystem : List (Form 32) := [
  .load .csrrw, .load .csrrc, .load .csrrs, .csrImm .csrrwi, .csrImm .csrrci, .csrImm .csrrsi, .fixed .ecall,
  .fixed .ebreak, .fence, .fenceI, .fixed .mret, .fixed .wfi ]

def formsZbaZbb : List (Form 32) := [
  .typeR .sh1add, .typeR .sh2add, .typeR .sh3add, .typeR .andn, .unary .clz, .unary .cpop, .unary .ctz, .typeR .max,
  .typeR .maxu, .typeR .min, .typeR .minu, .unary .orcB, .typeR .orn, .unary .rev8, .typeR .rol, .typeR .ror,
  .shift .rori, .unary .sextB, .unary .sextH, .typeR .xnor, .unary .zextH ]

def formsZbcZbs : List (Form 32) := [
  .typeR .clmul, .typeR .clmulh, .typeR .clmulr, .typeR .bclr, .shift .bclri, .typeR .bext, .shift .bexti,
  .typeR .binv, .shift .binvi, .typeR .bset, .shift .bseti ]

/-- The forms of the rows of width 32, in the rows' order. -/
def forms32 : List (Form 32) :=
  formsInteger ++ formsControl ++ formsMemory ++ formsM ++ formsA ++ formsSystem ++ formsZbaZbb ++ formsZbcZbs

/-! ## Width 16 (R243 to R269) -/

abbrev regAt : Layout 16 Reg := (slice 7 5).reg
abbrev halfRs2At : Layout 16 Reg := (slice 2 5).reg
abbrev highAt : Layout 16 Reg := (slice 7 3).primeReg
abbrev lowAt : Layout 16 Reg := (slice 2 3).primeReg
abbrev shamtAt : Layout 16 (BitVec 5) := slice 2 5
abbrev imm6At : Layout 16 (BitVec 6) := (slice 12 1).glue (slice 2 5)

abbrev uimmWordAt : Layout 16 (BitVec 7) :=
  padded 2 ((slice 5 1).glue (slice 10 3) |>.glue (slice 6 1)) putUimmWord

abbrev jumpAt : Layout 16 (BitVec 12) :=
  padded 1 ((slice 12 1).glue (slice 8 1) |>.glue (slice 9 2) |>.glue (slice 6 1) |>.glue (slice 7 1)
    |>.glue (slice 2 1) |>.glue (slice 11 1) |>.glue (slice 3 3)) putJump

abbrev branchAt : Layout 16 (BitVec 9) :=
  padded 1 ((slice 12 1).glue (slice 5 2) |>.glue (slice 2 1) |>.glue (slice 10 2) |>.glue (slice 3 2)) putBranch

/-- The immediate of `c.addi4spn` (R243). -/
abbrev spUimmAt : Layout 16 (BitVec 10) :=
  padded 2 ((slice 7 4).glue (slice 11 2) |>.glue (slice 5 1) |>.glue (slice 6 1)) fun u =>
    place 16 (u.extractLsb 5 4) 11 ||| (place 16 (u.extractLsb 9 6) 7
      ||| (place 16 (u.extractLsb 2 2) 6 ||| place 16 (u.extractLsb 3 3) 5))

/-- The immediate of `c.addi16sp` (R250). -/
abbrev spImmAt : Layout 16 (BitVec 10) :=
  padded 4 ((slice 12 1).glue (slice 3 2) |>.glue (slice 5 1) |>.glue (slice 2 1) |>.glue (slice 6 1)) fun z =>
    place 16 (z.extractLsb 9 9) 12 ||| (place 16 (z.extractLsb 4 4) 6 ||| (place 16 (z.extractLsb 6 6) 5
      ||| (place 16 (z.extractLsb 8 7) 3 ||| place 16 (z.extractLsb 5 5) 2)))

/-- The displacement of `c.lwsp` (R263). -/
abbrev spLoadAt : Layout 16 (BitVec 8) :=
  padded 2 ((slice 2 2).glue (slice 12 1) |>.glue (slice 4 3)) fun u =>
    place 16 (u.extractLsb 5 5) 12 ||| (place 16 (u.extractLsb 4 2) 4 ||| place 16 (u.extractLsb 7 6) 2)

/-- The displacement of `c.swsp` (R269). -/
abbrev spStoreAt : Layout 16 (BitVec 8) :=
  padded 2 ((slice 7 2).glue (slice 9 4)) fun u => place 16 (u.extractLsb 5 2) 9 ||| place 16 (u.extractLsb 7 6) 7

def formsQuadrant0 : List (Form 16) := [
  ⟨_, lowAt.both spUimmAt, fun a => .cAddi4spn a.1 a.2⟩,
  ⟨_, lowAt.both (highAt.both uimmWordAt), fun a => .cLw a.1 a.2.2 a.2.1⟩,
  ⟨_, lowAt.both (highAt.both uimmWordAt), fun a => .cSw a.1 a.2.2 a.2.1⟩ ]

def formsQuadrant1 : List (Form 16) := [
  ⟨_, imm6At, .cNop⟩,
  ⟨_, regAt.both imm6At, fun a => .cAddi a.1 a.2⟩,
  ⟨_, jumpAt, .cJal⟩,
  ⟨_, regAt.both imm6At, fun a => .cLi a.1 a.2⟩,
  ⟨_, spImmAt, .cAddi16sp⟩,
  ⟨_, regAt.both imm6At, fun a => .cLui a.1 a.2⟩,
  ⟨_, highAt.both shamtAt, fun a => .cSrli a.1 a.2⟩,
  ⟨_, highAt.both shamtAt, fun a => .cSrai a.1 a.2⟩,
  ⟨_, highAt.both imm6At, fun a => .cAndi a.1 a.2⟩,
  ⟨_, highAt.both lowAt, fun a => .cSub a.1 a.2⟩,
  ⟨_, highAt.both lowAt, fun a => .cXor a.1 a.2⟩,
  ⟨_, highAt.both lowAt, fun a => .cOr a.1 a.2⟩,
  ⟨_, highAt.both lowAt, fun a => .cAnd a.1 a.2⟩,
  ⟨_, jumpAt, .cJ⟩,
  ⟨_, highAt.both branchAt, fun a => .cBeqz a.1 a.2⟩,
  ⟨_, highAt.both branchAt, fun a => .cBnez a.1 a.2⟩ ]

def formsQuadrant2 : List (Form 16) := [
  ⟨_, regAt.both shamtAt, fun a => .cSlli a.1 a.2⟩,
  ⟨_, regAt.both spLoadAt, fun a => .cLwsp a.1 a.2⟩,
  ⟨_, regAt, .cJr⟩,
  ⟨_, regAt.both halfRs2At, fun a => .cMv a.1 a.2⟩,
  .fixed .cEbreak,
  ⟨_, regAt, .cJalr⟩,
  ⟨_, regAt.both halfRs2At, fun a => .cAdd a.1 a.2⟩,
  ⟨_, halfRs2At.both spStoreAt, fun a => .cSwsp a.1 a.2⟩ ]

/-- The forms of the rows of width 16, in the rows' order. -/
def forms16 : List (Form 16) := formsQuadrant0 ++ formsQuadrant1 ++ formsQuadrant2

/-! ## Each row has its form -/

/-- `lr.w` is encoded as an atomic instruction with `rs2` 0. -/
theorem putRs2_zero : putRs2 0 = 0#32 := by decide

/-- What ties a row's pattern, mask and instructions to a form; `encoded` makes an encoding of its bits. Each field
comes with the proof that serves every row: the first by unfolding, the masks by computing, and the last because the
encoder puts the same fields beside the pattern, in the layout's order. -/
structure Form.Fits {n : Nat} (f : Form n) (encoded : BitVec n → Encoded) (pattern mask : BitVec n)
    (build : BitVec n → Instr) : Prop where
  build_eq : build = fun w => f.instr (f.layout.read w) := by rfl
  mask_eq : mask = ~~~f.layout.bits := by decide
  pattern_mask : pattern &&& mask = pattern := by decide
  encode_eq : ∀ a, encodeParcels (f.instr a) = encoded (pattern ||| f.layout.write a) := by
    intro a
    simp only [Form.typeR, Form.unary, Form.typeI, Form.load, Form.shift, Form.typeS, Form.typeB, Form.typeU,
      Form.typeJ, Form.csrImm, Form.atomic, Form.lr, Form.fence, Form.fenceI, Form.fixed_instr, Form.fixed_write,
      encodeParcels, encR, encUnary, encI, encShift, encS, encB, encU, encJ, encCsrImm, encAtomic, putRs2_zero,
      BitVec.or_zero, BitVec.or_assoc] <;> rfl

abbrev Row32.HasForm (r : Row32) (f : Form 32) : Prop := f.Fits .word r.pattern r.mask r.build

abbrev Row16.HasForm (r : Row16) (f : Form 16) : Prop := f.Fits .half r.pattern r.mask r.build

theorem rowsInteger_forms : List.Forall₂ Row32.HasForm rowsInteger formsInteger := by
  simp only [rowsInteger, formsInteger, List.forall₂_cons, List.Forall₂.nil, and_true]
  and_intros <;> exact {}

theorem rowsControl_forms : List.Forall₂ Row32.HasForm rowsControl formsControl := by
  simp only [rowsControl, formsControl, List.forall₂_cons, List.Forall₂.nil, and_true]
  and_intros <;> exact {}

theorem rowsMemory_forms : List.Forall₂ Row32.HasForm rowsMemory formsMemory := by
  simp only [rowsMemory, formsMemory, List.forall₂_cons, List.Forall₂.nil, and_true]
  and_intros <;> exact {}

theorem rowsM_forms : List.Forall₂ Row32.HasForm rowsM formsM := by
  simp only [rowsM, formsM, List.forall₂_cons, List.Forall₂.nil, and_true]
  and_intros <;> exact {}

theorem rowsA_forms : List.Forall₂ Row32.HasForm rowsA formsA := by
  simp only [rowsA, formsA, List.forall₂_cons, List.Forall₂.nil, and_true]
  and_intros <;> exact {}

theorem rowsSystem_forms : List.Forall₂ Row32.HasForm rowsSystem formsSystem := by
  simp only [rowsSystem, formsSystem, List.forall₂_cons, List.Forall₂.nil, and_true]
  and_intros <;> exact {}

theorem rowsZbaZbb_forms : List.Forall₂ Row32.HasForm rowsZbaZbb formsZbaZbb := by
  simp only [rowsZbaZbb, formsZbaZbb, List.forall₂_cons, List.Forall₂.nil, and_true]
  and_intros <;> exact {}

theorem rowsZbcZbs_forms : List.Forall₂ Row32.HasForm rowsZbcZbs formsZbcZbs := by
  simp only [rowsZbcZbs, formsZbcZbs, List.forall₂_cons, List.Forall₂.nil, and_true]
  and_intros <;> exact {}

theorem rowsQuadrant0_forms : List.Forall₂ Row16.HasForm rowsQuadrant0 formsQuadrant0 := by
  simp only [rowsQuadrant0, formsQuadrant0, List.forall₂_cons, List.Forall₂.nil, and_true]
  and_intros <;> exact {}

theorem rowsQuadrant1_forms : List.Forall₂ Row16.HasForm rowsQuadrant1 formsQuadrant1 := by
  simp only [rowsQuadrant1, formsQuadrant1, List.forall₂_cons, List.Forall₂.nil, and_true]
  and_intros <;> exact {}

theorem rowsQuadrant2_forms : List.Forall₂ Row16.HasForm rowsQuadrant2 formsQuadrant2 := by
  simp only [rowsQuadrant2, formsQuadrant2, List.forall₂_cons, List.Forall₂.nil, and_true]
  and_intros <;> exact {}

theorem rows32_forms : List.Forall₂ Row32.HasForm rows32 forms32 :=
  List.rel_append (List.rel_append (List.rel_append (List.rel_append (List.rel_append (List.rel_append (List.rel_append
    rowsInteger_forms rowsControl_forms) rowsMemory_forms) rowsM_forms) rowsA_forms) rowsSystem_forms)
    rowsZbaZbb_forms) rowsZbcZbs_forms

theorem rows16_forms : List.Forall₂ Row16.HasForm rows16 forms16 :=
  List.rel_append (List.rel_append rowsQuadrant0_forms rowsQuadrant1_forms) rowsQuadrant2_forms

end Sys2Proof
end

section
/-! PROOFS. What the rows' forms give: what a row builds of the bits it matches encodes to those bits, and is well
formed exactly where the row's constraints hold; every well-formed instruction is built by a row; and no two rows hit
the same bits (R94, R242). -/

namespace Sys2Proof

open Layout

/-! ## What a form gives its row -/

section
variable {n : Nat} {f : Form n} {encoded : BitVec n → Encoded} {pattern mask w : BitVec n} {build : BitVec n → Instr}

/-- What a row builds of bits it matches encodes to those bits: none is dropped. -/
theorem Form.Fits.encode_build (h : f.Fits encoded pattern mask build) (hw : w &&& mask = pattern) :
    encodeParcels (build w) = encoded w := by
  rw [h.build_eq, h.encode_eq, f.layout.write_read, ← hw, h.mask_eq, ← BitVec.and_or_distrib_left, BitVec.or_comm,
    BitVec.or_not_self, BitVec.and_allOnes]

/-- Whatever a row builds, it builds of bits it matches. -/
theorem Form.Fits.exists_match (h : f.Fits encoded pattern mask build) (w : BitVec n) :
    ∃ v, v &&& mask = pattern ∧ build v = build w := by
  have hp := h.pattern_mask
  rw [h.build_eq]
  rw [h.mask_eq] at hp ⊢
  refine ⟨pattern ||| w &&& f.layout.bits, ?_, congrArg f.instr (f.layout.read_congr ?_)⟩
  · rw [BitVec.and_or_distrib_right, hp, BitVec.and_assoc]; simp
  · rw [BitVec.and_or_distrib_right, ← hp, BitVec.and_assoc, BitVec.and_assoc]; simp

end

theorem exists_mem_of_forall₂ {α β : Type*} {R : α → β → Prop} {l : List α} {m : List β} (h : List.Forall₂ R l m)
    {a : α} (ha : a ∈ l) : ∃ b ∈ m, R a b := by
  induction h with
  | nil => cases ha
  | cons hab _ ih =>
    rcases List.mem_cons.1 ha with rfl | ha
    · exact ⟨_, List.mem_cons_self, hab⟩
    · obtain ⟨b, hb, h⟩ := ih ha
      exact ⟨b, List.mem_cons_of_mem _ hb, h⟩

theorem rows32_form {r : Row32} (hr : r ∈ rows32) : ∃ f ∈ forms32, r.HasForm f := exists_mem_of_forall₂ rows32_forms hr

theorem rows16_form {r : Row16} (hr : r ∈ rows16) : ∃ f ∈ forms16, r.HasForm f := exists_mem_of_forall₂ rows16_forms hr

theorem forms32_row {f : Form 32} (hf : f ∈ forms32) : ∃ r ∈ rows32, r.HasForm f :=
  exists_mem_of_forall₂ rows32_forms.flip hf

theorem forms16_row {f : Form 16} (hf : f ∈ forms16) : ∃ r ∈ rows16, r.HasForm f :=
  exists_mem_of_forall₂ rows16_forms.flip hf

/-! ## Every well-formed instruction is built by a row -/

/-- A row builds whatever its form makes of operands in their range. -/
theorem Form.Fits.forall_instr {n : Nat} {f : Form n} {encoded : BitVec n → Encoded} {pattern mask : BitVec n}
    {build : BitVec n → Instr} (h : f.Fits encoded pattern mask build) {P : Instr → Prop} (hP : ∀ w, P (build w))
    (a : f.Operands) (ha : f.layout.valid a) : P (f.instr a) := by
  have := hP (f.layout.write a)
  rw [h.build_eq] at this
  rwa [← f.layout.read_write a ha]

/-- What holds of whatever the rows build holds of every well-formed instruction. -/
theorem forall_wellFormed {P : Instr → Prop} (h32 : ∀ r ∈ rows32, ∀ w, P (r.build w))
    (h16 : ∀ r ∈ rows16, ∀ h, P (r.build h)) (i : Instr) (hi : i.wellFormed = true) : P i := by
  have h32 : ∀ f ∈ forms32, ∀ a, f.layout.valid a → P (f.instr a) := fun f hf =>
    have ⟨r, hr, h⟩ := forms32_row hf
    h.forall_instr (h32 r hr)
  have h16 : ∀ f ∈ forms16, ∀ a, f.layout.valid a → P (f.instr a) := fun f hf =>
    have ⟨r, hr, h⟩ := forms16_row hf
    h.forall_instr (h16 r hr)
  simp only [forms32, formsInteger, formsControl, formsMemory, formsM, formsA, formsSystem, formsZbaZbb, formsZbcZbs,
    List.forall_mem_append, List.forall_mem_cons, List.not_mem_nil, false_imp_iff, implies_true, Form.typeR, Form.unary,
    Form.typeI, Form.load, Form.shift, Form.typeS, Form.typeB, Form.typeU, Form.typeJ, Form.csrImm, Form.atomic,
    Form.lr, Form.fence, Form.fenceI, Form.fixed, Prod.forall, both_valid, reg_valid, bit_valid, slice_valid,
    glue_valid, padded_valid, empty_valid, true_and, and_true, forall_const] at h32
  simp only [forms16, formsQuadrant0, formsQuadrant1, formsQuadrant2, List.forall_mem_append, List.forall_mem_cons,
    List.not_mem_nil, false_imp_iff, implies_true, Form.fixed, Prod.forall, both_valid, reg_valid, primeReg_valid,
    slice_valid, glue_valid, padded_valid, empty_valid, true_and, and_true, forall_const] at h16
  cases i with
  | jal | beq | bne | blt | bge | bltu | bgeu =>
    dsimp only [Instr.wellFormed] at hi
    simp only [h32, hi]
  | cJal | cSrli | cSrai | cAndi | cJ | cSwsp =>
    dsimp only [Instr.wellFormed] at hi
    simp only [h16, hi]
  | cAddi4spn | cLw | cSw | cAddi16sp | cSub | cXor | cOr | cAnd | cBeqz | cBnez | cLwsp =>
    dsimp only [Instr.wellFormed] at hi
    simp only [Bool.and_eq_true] at hi
    simp only [h16, hi, and_true]
  | cNop | cAddi | cLi | cLui | cSlli | cJr | cMv | cEbreak | cJalr | cAdd => simp only [h16]
  | _ => simp only [h32]

/-! ## A row's constraints hold where what it builds is well formed -/

theorem rows32_wellFormed : ∀ r ∈ rows32, ∀ w, (r.build w).wellFormed = true := by
  have immB (w : Word) : aligned 1 (fieldImmB w) = true := immBAt.valid_read w
  have immJ (w : Word) : aligned 1 (fieldImmJ w) = true := immJAt.valid_read w
  simp only [rows32, rowsInteger, rowsControl, rowsMemory, rowsM, rowsA, rowsSystem, rowsZbaZbb, rowsZbcZbs,
    List.forall_mem_append, List.forall_mem_cons, List.not_mem_nil, false_imp_iff, implies_true, and_true]
  dsimp only [buildR, buildUnary, buildI, buildShift, buildLoad, buildS, buildB, buildU, buildJ, buildCsr, buildCsrImm,
    buildAtomic, buildLr, buildFence, buildFenceI, Instr.wellFormed]
  simp only [immB, immJ, implies_true, and_true]

theorem isPrime_halfLow (h : Half) : isPrime (halfLow h) = true := lowAt.valid_read h

theorem isPrime_halfHigh (h : Half) : isPrime (halfHigh h) = true := highAt.valid_read h

/-! A constraint of a row is a test of the operand in the bits it names. -/

theorem halfReg_ne_zero (h : Half) : (h &&& 0x0F80 != 0x0000) = (halfReg h != 0) := regAt.bne_read 0 trivial h

theorem halfReg_ne_two (h : Half) : (h &&& 0x0F80 != 0x0100) = (halfReg h != 2) := regAt.bne_read 2 trivial h

theorem halfRs2_ne_zero (h : Half) : (h &&& 0x007C != 0x0000) = (halfRs2 h != 0) := halfRs2At.bne_read 0 trivial h

theorem halfImm6_ne_zero (h : Half) : (h &&& 0x107C != 0x0000) = (halfImm6 h != 0) :=
  imm6At.bne_read 0 ⟨trivial, trivial⟩ h

theorem buildCAddi4spn_wellFormed (h : Half) : (buildCAddi4spn h).wellFormed = (h &&& 0x1FE0 != 0x0000) := by
  have aligned2 : aligned 2 (spUimmAt.read h) = true := spUimmAt.valid_read h
  change (isPrime (halfLow h) && aligned 2 (spUimmAt.read h) && spUimmAt.read h != 0) = _
  rw [isPrime_halfLow, aligned2, spUimmAt.bne_read 0 rfl h]; rfl

theorem buildCAddi16sp_wellFormed (h : Half) : (buildCAddi16sp h).wellFormed = (h &&& 0x107C != 0x0000) := by
  have aligned4 : aligned 4 (spImmAt.read h) = true := spImmAt.valid_read h
  change (aligned 4 (spImmAt.read h) && spImmAt.read h != 0) = _
  rw [aligned4, spImmAt.bne_read 0 rfl h]; rfl

theorem buildCLwsp_wellFormed (h : Half) : (buildCLwsp h).wellFormed = (halfReg h != 0) := by
  have aligned2 : aligned 2 (spLoadAt.read h) = true := spLoadAt.valid_read h
  change (halfReg h != 0 && aligned 2 (spLoadAt.read h)) = _
  rw [aligned2, Bool.and_true]

theorem buildCSwsp_wellFormed (h : Half) : (buildCSwsp h).wellFormed = true := spStoreAt.valid_read h

theorem rows16_wellFormed :
    ∀ r ∈ rows16, ∀ h, (r.build h).wellFormed = r.constraints.all fun c => h &&& c.1 != c.2 := by
  have uimmWord (h : Half) : aligned 2 (halfUimmWord h) = true := uimmWordAt.valid_read h
  have jump (h : Half) : aligned 1 (halfJump h) = true := jumpAt.valid_read h
  have branch (h : Half) : aligned 1 (halfBranch h) = true := branchAt.valid_read h
  simp only [rows16, rowsQuadrant0, rowsQuadrant1, rowsQuadrant2, List.forall_mem_append, List.forall_mem_cons,
    List.not_mem_nil, false_imp_iff, implies_true, List.all_cons, List.all_nil, buildCAddi4spn_wellFormed,
    buildCAddi16sp_wellFormed, buildCLwsp_wellFormed, buildCSwsp_wellFormed]
  dsimp only [buildCLw, buildCSw, buildCNop, buildCAddi, buildCJal, buildCLi, buildCLui, buildCSrli, buildCSrai,
    buildCAndi, buildCSub, buildCXor, buildCOr, buildCAnd, buildCJ, buildCBeqz, buildCBnez, buildCSlli, buildCJr,
    buildCMv, buildCEbreak, buildCJalr, buildCAdd, Instr.wellFormed]
  simp only [isPrime_halfLow, isPrime_halfHigh, uimmWord, jump, branch, halfReg_ne_zero, halfReg_ne_two,
    halfRs2_ne_zero, halfImm6_ne_zero, Bool.and_true, implies_true, and_true]

/-! ## No two rows hit the same bits (R94, R242) -/

/-- The row asks of `c`'s bits the value that `c` forbids. -/
def Row16.violates (r : Row16) (c : Half × Half) : Bool := c.1 &&& r.mask == c.1 && r.pattern &&& c.1 == c.2

/-- Two rows exclude each other: their patterns differ on bits that both masks test, or one's pattern violates a
constraint of the other. -/
def Row16.excludes (r q : Row16) : Bool :=
  r.pattern &&& q.mask != q.pattern &&& r.mask || q.constraints.any r.violates || r.constraints.any q.violates

theorem Row16.hits_iff {r : Row16} {h : Half} :
    r.hits h = true ↔ h &&& r.mask = r.pattern ∧ r.constraints.all (fun c => h &&& c.1 != c.2) = true := by
  simp only [Row16.hits, Bool.and_eq_true, beq_iff_eq]

theorem Row32.hits_iff {r : Row32} {w : Word} : r.hits w = true ↔ w &&& r.mask = r.pattern := by
  simp only [Row32.hits, beq_iff_eq]

/-- A row that hits a parcel violates no constraint that holds there. -/
theorem Row16.not_violates {r : Row16} {h : Half} (hr : r.hits h = true) {cs : List (Half × Half)}
    (hcs : cs.all (fun c => h &&& c.1 != c.2) = true) : cs.any r.violates = false := by
  rw [List.any_eq_false]
  intro c hc hv
  have hne := List.all_eq_true.1 hcs c hc
  simp only [Row16.violates, Bool.and_eq_true, beq_iff_eq] at hv
  obtain ⟨hmask, hpattern⟩ := hv
  rw [← (Row16.hits_iff.1 hr).1, BitVec.and_assoc, BitVec.and_comm r.mask, hmask] at hpattern
  simp [hpattern] at hne

/-- Rows that exclude each other hit no common parcel. -/
theorem Row16.not_both {r q : Row16} (h : r.excludes q = true) {x : Half} (hr : r.hits x = true) :
    q.hits x = false := by
  rw [← Bool.not_eq_true]
  intro hq
  obtain ⟨hrp, hrc⟩ := Row16.hits_iff.1 hr
  obtain ⟨hqp, hqc⟩ := Row16.hits_iff.1 hq
  have same : r.pattern &&& q.mask = q.pattern &&& r.mask := by
    rw [← hrp, ← hqp, BitVec.and_assoc, BitVec.and_assoc, BitVec.and_comm r.mask]
  simp [Row16.excludes, same, Row16.not_violates hr hqc, Row16.not_violates hq hrc] at h

theorem rows32_differ : rows32.Pairwise fun r q => r.pattern &&& q.mask ≠ q.pattern &&& r.mask := by
  decide

theorem rows16_exclude : rows16.Pairwise fun r q => r.excludes q = true := by decide

theorem rows32_disjoint (w : Word) : rows32.Pairwise fun r q => r.hits w = true → q.hits w = false :=
  rows32_differ.imp fun h => Row32.not_both h w

theorem rows16_disjoint (x : Half) : rows16.Pairwise fun r q => r.hits x = true → q.hits x = false :=
  rows16_exclude.imp fun h => Row16.not_both h

end Sys2Proof
end

section
/-! PROOFS. Decoding and encoding are inverse: an encoding decodes to an instruction exactly where the instruction is
well formed and is encoded so, and bytes decode where they begin with such an encoding (R81, R94, R95, R242). -/

namespace Sys2Proof

/-! ## The two low bits say which table a row is of (R81) -/

/-- Bits that a mask tests are those of the pattern. -/
theorem extractLsb_of_match {n : Nat} {w mask pattern : BitVec n} (hw : w &&& mask = pattern)
    (hm : mask.extractLsb 1 0 = 3#2) : w.extractLsb 1 0 = pattern.extractLsb 1 0 := by
  rw [← hw, BitVec.extractLsb_and, hm]
  exact BitVec.and_allOnes.symm

theorem rows32_low_bits : ∀ r ∈ rows32, r.mask.extractLsb 1 0 = 3#2 ∧ r.pattern.extractLsb 1 0 = 3#2 := by decide

theorem rows16_low_bits : ∀ r ∈ rows16, r.mask.extractLsb 1 0 = 3#2 ∧ r.pattern.extractLsb 1 0 ≠ 3#2 := by decide

theorem low_bits_of_hits32 {r : Row32} (hr : r ∈ rows32) {w : Word} (hw : r.hits w = true) :
    w.extractLsb 1 0 = 3#2 :=
  have ⟨hmask, hpattern⟩ := rows32_low_bits r hr
  (extractLsb_of_match (Row32.hits_iff.1 hw) hmask).trans hpattern

theorem low_bits_of_hits16 {r : Row16} (hr : r ∈ rows16) {h : Half} (hh : r.hits h = true) :
    h.extractLsb 1 0 ≠ 3#2 :=
  have ⟨hmask, hpattern⟩ := rows16_low_bits r hr
  (extractLsb_of_match (Row16.hits_iff.1 hh).1 hmask).trans_ne hpattern

/-- Settles O48: two rows' patterns differ on bits that both masks test, or one's pattern violates a constraint of the
other. -/
theorem rowsAreDisjoint : Obligations.RowsAreDisjoint := by
  refine ⟨rfl, rfl, fun w => ?_, fun w r hr => low_bits_of_hits32 hr, fun h => ?_, fun h r hr => low_bits_of_hits16 hr⟩
  · exact (rows32_disjoint w).imp fun hd ⟨hr, hq⟩ => Bool.false_ne_true ((hd hr).symm.trans hq)
  · exact (rows16_disjoint h).imp fun hd ⟨hr, hq⟩ => Bool.false_ne_true ((hd hr).symm.trans hq)

/-! ## One encoding -/

/-- The instruction that a parcel or word is, if it is one. -/
def Encoded.decode : Encoded → Option Instr
  | .half h => decode16 h
  | .word w => decode32 w

theorem decode16_eq_some {r : Row16} (hr : r ∈ rows16) {h : Half} (hh : r.hits h = true) :
    decode16 h = some (r.build h) := by
  rw [decode16, find?_eq_some_of_pairwise (rows16_disjoint h) hr hh]; rfl

theorem decode32_eq_some {r : Row32} (hr : r ∈ rows32) {w : Word} (hw : r.hits w = true) :
    decode32 w = some (r.build w) := by
  rw [decode32, find?_eq_some_of_pairwise (rows32_disjoint w) hr hw]; rfl

theorem exists_row16 {h : Half} {i : Instr} (hi : decode16 h = some i) :
    ∃ r ∈ rows16, r.hits h = true ∧ r.build h = i := by
  obtain ⟨r, hr, rfl⟩ := Option.map_eq_some_iff.1 hi
  exact ⟨r, List.mem_of_find?_eq_some hr, List.find?_some (p := fun r : Row16 => r.hits h) hr, rfl⟩

theorem exists_row32 {w : Word} {i : Instr} (hi : decode32 w = some i) :
    ∃ r ∈ rows32, r.hits w = true ∧ r.build w = i := by
  obtain ⟨r, hr, rfl⟩ := Option.map_eq_some_iff.1 hi
  exact ⟨r, List.mem_of_find?_eq_some hr, List.find?_some (p := fun r : Row32 => r.hits w) hr, rfl⟩

/-- A well-formed instruction's encoding decodes to it: the row that builds it hits the encoding, and no other does. -/
theorem decode_encodeParcels (i : Instr) (hi : i.wellFormed = true) : (encodeParcels i).decode = some i := by
  refine forall_wellFormed (P := fun i => i.wellFormed = true → (encodeParcels i).decode = some i)
    (fun r hr v _ => ?_) (fun r hr v hv => ?_) i hi hi
  · obtain ⟨f, -, fits⟩ := rows32_form hr
    obtain ⟨w, hw, hb⟩ := fits.exists_match v
    rw [← hb, fits.encode_build hw]
    exact decode32_eq_some hr (Row32.hits_iff.2 hw)
  · obtain ⟨f, -, fits⟩ := rows16_form hr
    obtain ⟨h, hh, hb⟩ := fits.exists_match v
    rw [← hb] at hv ⊢
    rw [fits.encode_build hh]
    exact decode16_eq_some hr (Row16.hits_iff.2 ⟨hh, (rows16_wellFormed r hr h).symm.trans hv⟩)

/-- What a parcel or word decodes to is well formed and encoded by it. -/
theorem encodeParcels_of_decode {e : Encoded} {i : Instr} (h : e.decode = some i) :
    i.wellFormed = true ∧ encodeParcels i = e := by
  cases e with
  | half x =>
    obtain ⟨r, hr, hx, rfl⟩ := exists_row16 h
    obtain ⟨f, -, fits⟩ := rows16_form hr
    obtain ⟨hmatch, hconstraints⟩ := Row16.hits_iff.1 hx
    exact ⟨(rows16_wellFormed r hr x).trans hconstraints, fits.encode_build hmatch⟩
  | word w =>
    obtain ⟨r, hr, hw, rfl⟩ := exists_row32 h
    obtain ⟨f, -, fits⟩ := rows32_form hr
    exact ⟨rows32_wellFormed r hr w, fits.encode_build (Row32.hits_iff.1 hw)⟩

/-! ## Its bytes (R52, R81) -/

theorem isLong_of_decode16 {h : Half} {i : Instr} (hi : decode16 h = some i) : isLong h = false := by
  obtain ⟨r, hr, hh, -⟩ := exists_row16 hi
  exact beq_false_of_ne (low_bits_of_hits16 hr hh)

theorem isLong_of_decode32 {w : Word} {i : Instr} (hi : decode32 w = some i) : isLong (w.extractLsb 15 0) = true := by
  obtain ⟨r, hr, hw, -⟩ := exists_row32 hi
  exact beq_of_eq ((extractLsb'_extractLsb' w 0 2 0 16 (by decide)).trans (low_bits_of_hits32 hr hw))

theorem parcelOf_toNat (b0 b1 : Byte) : (parcelOf b0 b1).toNat = b1.toNat * 256 + b0.toNat := by
  rw [parcelOf, BitVec.toNat_append, ← Nat.shiftLeft_add_eq_or_of_lt b0.isLt, Nat.shiftLeft_eq]

theorem wordOf_toNat (low high : Half) : (wordOf low high).toNat = high.toNat * 65536 + low.toNat := by
  rw [wordOf, BitVec.toNat_append, ← Nat.shiftLeft_add_eq_or_of_lt low.isLt, Nat.shiftLeft_eq]

theorem bytesOf_succ (n v : Nat) (b : Byte) : bytesOf (n + 1) (v * 256 + b.toNat) = b :: bytesOf n v := by
  have hb := b.isLt
  rw [bytesOf, show (v * 256 + b.toNat) / 256 = v by omega]
  congr 1
  refine BitVec.eq_of_toNat_eq ?_
  rw [BitVec.toNat_ofNat]; omega

theorem bytes_half (b0 b1 : Byte) : (Encoded.half (parcelOf b0 b1)).bytes = [b0, b1] := by
  have value : (parcelOf b0 b1).toNat = (0 * 256 + b1.toNat) * 256 + b0.toNat := by
    rw [parcelOf_toNat]; omega
  rw [Encoded.bytes, value, bytesOf_succ, bytesOf_succ, bytesOf]

theorem bytes_word (b0 b1 b2 b3 : Byte) :
    (Encoded.word (wordOf (parcelOf b0 b1) (parcelOf b2 b3))).bytes = [b0, b1, b2, b3] := by
  have value : (wordOf (parcelOf b0 b1) (parcelOf b2 b3)).toNat =
      (((0 * 256 + b3.toNat) * 256 + b2.toNat) * 256 + b1.toNat) * 256 + b0.toNat := by
    rw [wordOf_toNat, parcelOf_toNat, parcelOf_toNat]; omega
  rw [Encoded.bytes, value, bytesOf_succ, bytesOf_succ, bytesOf_succ, bytesOf_succ, bytesOf]

/-- Bytes decode to an instruction where they begin with an encoding that does. -/
theorem decode_eq_ok_iff {bs rest : List Byte} {i : Instr} :
    decode bs = .ok (i, rest) ↔ ∃ e : Encoded, e.decode = some i ∧ bs = e.bytes ++ rest := by
  constructor
  · intro h
    simp only [decode] at h
    repeat' split at h
    all_goals cases h
    · exact ⟨.word _, ‹_›, by rw [bytes_word]; rfl⟩
    · exact ⟨.half _, ‹_›, by rw [bytes_half]; rfl⟩
  · rintro ⟨e, he, rfl⟩
    cases e with
    | half h => rw [decode_half_bytes (isLong_of_decode16 he), show decode16 h = some i from he]
    | word w => rw [decode_word_bytes (isLong_of_decode32 he), show decode32 w = some i from he]

/-- Settles O50: the bytes begin with the instruction's encoding, which decodes to it. -/
theorem decodeInvertsEncode : Obligations.DecodeInvertsEncode := by
  intro i rest hi
  exact decode_eq_ok_iff.2 ⟨encodeParcels i, decode_encodeParcels i hi, rfl⟩

/-- Settles O51: the bytes begin with an encoding, which is that of what it decodes to. -/
theorem encodeInvertsDecode : Obligations.EncodeInvertsDecode := by
  intro bs rest i h
  obtain ⟨e, he, rfl⟩ := decode_eq_ok_iff.1 h
  obtain ⟨hi, rfl⟩ := encodeParcels_of_decode he
  exact ⟨hi, rfl⟩

end Sys2Proof
end

section
/-! PROOFS. The step at bytes that no row hits. -/

namespace Sys2Proof.Machine

open Sys2Proof

theorem decode16_eq_none {h : Half} (hh : ∀ r ∈ rows16, r.hits h = false) : decode16 h = none := by
  rw [decode16, List.find?_eq_none.2 fun r hr => by rw [hh r hr]; decide]; rfl

theorem decode32_eq_none {w : Word} (hw : ∀ r ∈ rows32, r.hits w = false) : decode32 w = none := by
  rw [decode32, List.find?_eq_none.2 fun r hr => by rw [hw r hr]; decide]; rfl

/-- Bytes that are fetched and do not decode raise the exception of code 2 (R95, R354). -/
theorem stepTraps_of_decode_error {s : State} {bs : List Byte} {e : DecodeError} (hb : fetchBytes s = .got bs)
    (hd : decode bs = .error e) : StepTraps 2 s := by
  have raises : fetchInstr s = .raises (.illegalInstruction e.bits) := by simp only [fetchInstr, hb, hd]
  exact ⟨_, by simp only [step, raises], (OnlyAsked.refl s).trapped (.illegalInstruction e.bits)⟩

/-- Settles O44: where no row hits the fetched parcel or word, the decoder rejects its bytes. -/
theorem illegalEncodingTraps : Obligations.IllegalEncodingTraps := by
  intro s
  constructor
  · intro b0 b1 code short hno
    refine stepTraps_of_decode_error (e := .illegalParcel (parcelOf b0 b1)) (code.fetchBytes_short short) ?_
    simp only [decode, short, decode16_eq_none hno, Bool.false_eq_true, if_false]
  · intro b0 b1 b2 b3 code long hno
    refine stepTraps_of_decode_error (e := .illegalWord (wordOf (parcelOf b0 b1) (parcelOf b2 b3)))
      (code.fetchBytes_long long) ?_
    simp only [decode, long, decode32_eq_none hno, if_true]

end Sys2Proof.Machine
end

section
/-! PROOFS. Integer computation (40_rv32i_integer.md): an instruction that computes is an equation between the model's
result and the integers' (R12, R120). -/

namespace Sys2Proof.Machine

open Sys2Proof

/-! ## Instructions that only compute -/

/-- `x[rd] <- v; pc <- pc + ilen` at a cost of `lo` to `hi` cycles, and nothing else (R22, R25, R410). -/
theorem writeBack_computed {c : Cost} {lo hi : Nat} {s : State} (ilen : Word) (rd : Reg) (v : Word)
    (cost : lo ≤ c.cycles s.draws ∧ c.cycles s.draws ≤ hi) :
    Computed ilen lo hi rd v s (charge c (advance ilen (writeReg rd v s))) where
  result := writeReg_wrote rd v s
  pc := rfl
  time := ⟨Nat.add_le_add_left cost.1 _, Nat.add_le_add_left cost.2 _⟩
  rest := {
    regs := fun _ hr => readReg_writeReg_other s (List.ne_of_not_mem_cons hr) v
    csrs := ⟨rfl, rfl, rfl, rfl, rfl, rfl⟩
    monitors := ⟨rfl, rfl, rfl⟩
    memory := ⟨fun _ => rfl, rfl, rfl⟩ }

/-- An instruction whose meaning is `compute` of `v` completes with `v'`, where the two are the same word. -/
theorem does_of_compute {i : Instr} {s : State} {ilen v v' : Word} {rd : Reg}
    (meaning : exec i s = compute ilen rd v s) (value : v = v') : Does i s (Computed ilen 1 1 rd v' s) :=
  ⟨_, meaning, value ▸ writeBack_computed ilen rd v ⟨Nat.le_refl 1, Nat.le_refl 1⟩⟩

/-! ## Words as integers (R12) -/

theorem add_eq_ofInt (a b : Word) : a + b = BitVec.ofInt 32 (a.toInt + b.toInt) := by
  rw [BitVec.ofInt_add, BitVec.ofInt_toInt, BitVec.ofInt_toInt]

theorem sub_eq_ofInt (a b : Word) : a - b = BitVec.ofInt 32 (a.toInt - b.toInt) :=
  BitVec.eq_of_toInt_eq (by rw [BitVec.toInt_sub, BitVec.toInt_ofInt])

theorem sext_toInt {n : Nat} (v : BitVec n) (h : n ≤ 32) : (sext v).toInt = v.toInt :=
  BitVec.toInt_signExtend_of_le h

theorem setLessSigned_eq_ite (a b : Word) : setLessSigned a b = if a.toInt < b.toInt then 1 else 0 := by
  simp only [setLessSigned, boolWord, lessSigned, decide_eq_true_eq]

theorem setLessUnsigned_eq_ite (a b : Word) : setLessUnsigned a b = if a.toNat < b.toNat then 1 else 0 := by
  simp only [setLessUnsigned, boolWord, lessUnsigned, decide_eq_true_eq]

theorem shiftLeft_eq_ofNat (a : Word) (n : Nat) : shiftLeft a n = BitVec.ofNat 32 (a.toNat * 2 ^ n) :=
  BitVec.eq_of_toNat_eq (by rw [shiftLeft, BitVec.toNat_shiftLeft, Nat.shiftLeft_eq, BitVec.toNat_ofNat])

theorem shiftRightLogical_eq_ofNat (a : Word) (n : Nat) :
    shiftRightLogical a n = BitVec.ofNat 32 (a.toNat / 2 ^ n) := by
  rw [shiftRightLogical, ← Nat.shiftRight_eq_div_pow, ← BitVec.toNat_ushiftRight, BitVec.ofNat_toNat,
    BitVec.setWidth_eq]

/-- The division is rounded down, as an arithmetic shift does. -/
theorem shiftRightArith_eq_ofInt (a : Word) (n : Nat) :
    shiftRightArith a n = BitVec.ofInt 32 (a.toInt / 2 ^ n) := by
  rw [shiftRightArith, ← BitVec.ofInt_toInt (x := a.sshiftRight n), BitVec.toInt_sshiftRight,
    Int.shiftRight_eq_div_pow, Int.natCast_pow, Int.cast_ofNat_Int]

theorem lowFive_eq_mod (v : Word) : lowFive v = v.toNat % 32 := by
  rw [lowFive, BitVec.extractLsb_toNat, Nat.shiftRight_zero]

theorem upperImm_eq_ofNat (imm : BitVec 20) : upperImm imm = BitVec.ofNat 32 (imm.toNat * 4096) := by
  refine BitVec.eq_of_toNat_eq ?_
  have bound := imm.isLt
  rw [upperImm, BitVec.toNat_append, ← Nat.shiftLeft_add_eq_or_of_lt (0#12).isLt, Nat.shiftLeft_eq]
  simp only [BitVec.toNat_ofNat]
  omega

/-! ## The instructions -/

/-- Settles O2: each meaning is `compute` of a word that is the integers' result. -/
theorem integerRegisterResults : Obligations.IntegerRegisterResults := by
  rintro s rd rs1 rs2 a b rfl rfl
  have amount : lowFive (readReg rs2 s) = (readReg rs2 s).toNat % 32 := lowFive_eq_mod _
  refine ⟨does_of_compute rfl (add_eq_ofInt _ _), does_of_compute rfl (sub_eq_ofInt _ _),
    does_of_compute rfl (setLessSigned_eq_ite _ _), does_of_compute rfl (setLessUnsigned_eq_ite _ _),
    does_of_compute rfl rfl, does_of_compute rfl rfl, does_of_compute rfl rfl, ?sll, ?srl, ?sra⟩
  case sll => exact does_of_compute rfl (amount ▸ shiftLeft_eq_ofNat _ _)
  case srl => exact does_of_compute rfl (amount ▸ shiftRightLogical_eq_ofNat _ _)
  case sra => exact does_of_compute rfl (amount ▸ shiftRightArith_eq_ofInt _ _)

/-- Settles O3: the sign-extended immediate is the same integer; `sltiu` compares its bits (R133, R142). -/
theorem integerImmediateResults : Obligations.IntegerImmediateResults := by
  rintro s rd rs1 imm shamt a rfl
  have himm : (sext imm).toInt = imm.toInt := sext_toInt imm (by decide)
  exact ⟨does_of_compute rfl (himm ▸ add_eq_ofInt _ _), does_of_compute rfl (himm ▸ setLessSigned_eq_ite _ _),
    does_of_compute rfl (setLessUnsigned_eq_ite _ _), does_of_compute rfl rfl, does_of_compute rfl rfl,
    does_of_compute rfl rfl, does_of_compute rfl (shiftLeft_eq_ofNat _ _),
    does_of_compute rfl (shiftRightLogical_eq_ofNat _ _), does_of_compute rfl (shiftRightArith_eq_ofInt _ _)⟩

/-- Settles O4: the immediate is placed above 12 zero bits. -/
theorem upperImmediateResults : Obligations.UpperImmediateResults := by
  intro s rd imm
  refine ⟨does_of_compute rfl ?lui, does_of_compute rfl ?auipc⟩
  case lui => exact upperImm_eq_ofNat imm
  case auipc => rw [BitVec.ofNat_add, ← upperImm_eq_ofNat, BitVec.ofNat_toNat, BitVec.setWidth_eq]

end Sys2Proof.Machine

namespace Sys2Proof

/-- Settles O47, by running the decoder on each of the eighteen. -/
theorem specWordsDecode : Obligations.SpecWordsDecode := by
  unfold Obligations.SpecWordsDecode
  and_intros <;> decide

end Sys2Proof
end

section
/-! PROOFS. Control transfer (41_rv32i_control_transfer.md): a jump, or a branch whose condition holds, puts the pc at
its target in `2 + u` cycles. The conditions and targets are those of the obligations. -/

namespace Sys2Proof.Machine

open Sys2Proof

/-! ## Unaligned targets (R414) -/

theorem extractLsb_one_zero_eq_two_iff (v : Word) : v.extractLsb 1 0 = 2#2 ↔ v.toNat % 4 = 2 := by
  rw [← BitVec.toNat_inj, BitVec.extractLsb_toNat, Nat.shiftRight_zero]; rfl

/-- The first byte of a parcel holds its two low bits (R52, R81). -/
theorem isLong_parcelOf (b0 b1 : Byte) : isLong (parcelOf b0 b1) = true ↔ b0.extractLsb 1 0 = 3#2 := by
  have low : (parcelOf b0 b1).extractLsb 1 0 = b0.extractLsb 1 0 := BitVec.extractLsb'_append_eq_of_add_le (by decide)
  rw [isLong, low, beq_iff_eq]

/-- The model's test of a target is the obligations' condition. -/
theorem unalignedTarget_iff_unaligned (target : Word) (s : State) :
    unalignedTarget target s = true ↔ Unaligned target s := by
  rw [unalignedTarget_iff, extractLsb_one_zero_eq_two_iff]
  constructor
  · rintro ⟨two, h, parcel, long⟩
    obtain ⟨backed, b0, b1, h0, h1, rfl⟩ := (parcelAt_eq_some target s h).1 parcel
    exact ⟨two, backed, b0, b1, h0, h1, (isLong_parcelOf b0 b1).1 long⟩
  · rintro ⟨two, backed, b0, b1, h0, h1, long⟩
    exact ⟨two, _, (parcelAt_eq_some target s _).2 ⟨backed, b0, b1, h0, h1, rfl⟩, (isLong_parcelOf b0 b1).2 long⟩

/-! ## Transfers -/

section
variable {i : Instr} {s : State} {ilen target : Word}

/-- A transfer moves the pc and the count of cycles, and its link is a general register: nothing else can change. -/
theorem keepsAllBut_of_regs {but : List Reg} {regs : Vector Word 31} {pc : Word} {c : Cost}
    (h : KeepsRegs but s (s.setRegs regs)) : KeepsAllBut but s (charge c ((s.setRegs regs).setPc pc)) where
  regs := h
  csrs := ⟨rfl, rfl, rfl, rfl, rfl, rfl⟩
  monitors := ⟨rfl, rfl, rfl⟩
  memory := ⟨fun _ => rfl, rfl, rfl⟩

/-- `jumpCost` at the target is the obligations' `2 + u`: the link cannot change what is there (R420). -/
theorem transferred_of_regs (target : Word) (s : State) (regs : Vector Word 31) :
    Transferred target s (charge (jumpCost ((s.setRegs regs).setPc target)) ((s.setRegs regs).setPc target)) := by
  have cycles : (charge (jumpCost ((s.setRegs regs).setPc target)) ((s.setRegs regs).setPc target)).cycles =
      s.cycles + if unalignedTarget target s then 3 else 2 := rfl
  have unaligned := unalignedTarget_iff_unaligned target s
  exact ⟨rfl, fun h => by rw [cycles, if_pos (unaligned.2 h)], fun h => by rw [cycles, if_neg (mt unaligned.1 h)]⟩

/-- An instruction whose meaning is `jump` links and transfers (R150, R151). -/
theorem does_of_jump {rd : Reg} (meaning : exec i s = jump ilen rd target s) :
    Does i s (Linked ilen rd target s) :=
  ⟨_, meaning, {
    link := writeReg_wrote rd (s.pc + ilen) s
    transfer := transferred_of_regs target s _
    rest := keepsAllBut_of_regs fun _ hr => readReg_writeReg_other s (List.ne_of_not_mem_cons hr) _ }⟩

/-- An instruction whose meaning is `branch` transfers exactly when its condition holds (R152 to R157, R417). -/
theorem does_of_branch {taken : Bool} {condition : Prop} (meaning : exec i s = branch ilen taken target s)
    (iff : taken = true ↔ condition) : Does i s (Branched ilen condition target s) := by
  have rest {pc : Word} {c : Cost} : KeepsAllBut [] s (charge c (s.setPc pc)) :=
    keepsAllBut_of_regs (regs := s.regs) fun _ _ => rfl
  cases taken with
  | true =>
    have holds : condition := iff.1 rfl
    exact ⟨_, meaning, fun _ => transferred_of_regs target s s.regs, fun fails => absurd holds fails, rest⟩
  | false =>
    have fails : ¬ condition := fun holds => Bool.false_ne_true (iff.2 holds)
    exact ⟨_, meaning, fun holds => absurd holds fails, fun _ => ⟨rfl, rfl⟩, rest⟩

end

/-! ## Conditions -/

theorem lessSigned_iff (a b : Word) : lessSigned a b = true ↔ a.toInt < b.toInt := decide_eq_true_iff

theorem lessUnsigned_iff (a b : Word) : lessUnsigned a b = true ↔ a.toNat < b.toNat := decide_eq_true_iff

theorem not_lessSigned_iff (a b : Word) : (!lessSigned a b) = true ↔ b.toInt ≤ a.toInt := by
  rw [Bool.not_eq_true', ← Bool.not_eq_true, lessSigned_iff, Int.not_lt]

theorem not_lessUnsigned_iff (a b : Word) : (!lessUnsigned a b) = true ↔ b.toNat ≤ a.toNat := by
  rw [Bool.not_eq_true', ← Bool.not_eq_true, lessUnsigned_iff, Nat.not_lt]

/-! ## The instructions -/

/-- Settles O5: each meaning is `jump`, with the target taken from the registers before the link is written. -/
theorem jumpsLinkAndTransfer : Obligations.JumpsLinkAndTransfer := by
  intro s rd rs1 imm offset short
  exact ⟨does_of_jump rfl, does_of_jump rfl, does_of_jump rfl, does_of_jump rfl, does_of_jump rfl, does_of_jump rfl⟩

/-- Settles O6: each meaning is `branch`, taken exactly under the condition. -/
theorem branchesCompareAndTransfer : Obligations.BranchesCompareAndTransfer := by
  rintro s rs1 rs2 offset short a b rfl rfl
  exact ⟨does_of_branch rfl beq_iff_eq, does_of_branch rfl bne_iff_ne, does_of_branch rfl (lessSigned_iff _ _),
    does_of_branch rfl (not_lessSigned_iff _ _), does_of_branch rfl (lessUnsigned_iff _ _),
    does_of_branch rfl (not_lessUnsigned_iff _ _), does_of_branch rfl beq_iff_eq, does_of_branch rfl bne_iff_ne⟩

end Sys2Proof.Machine
end

section
/-! PROOFS. Loads and stores at permitted addresses (42_rv32i_load_store.md): a load reads its bytes back and extends
them, a store writes its bytes; all else each does is go on to the next instruction. -/

namespace Sys2Proof.Machine

open Sys2Proof

variable {i : Instr} {s : State} {ilen addr v : Word} {n : Nat}

/-! ## Loads -/

/-- `1 + d` is 1 or 2 cycles, whatever is executed next (R412). -/
theorem dependencyCost_cycles_range (rd : Reg) (j : Option Instr) (draws : Nat) :
    1 ≤ (dependencyCost rd j).cycles draws ∧ (dependencyCost rd j).cycles draws ≤ 2 := by
  obtain one | two | either := dependencyCost_cases rd j
  · rw [one]; exact ⟨Nat.le_refl 1, Nat.le_succ 1⟩
  · rw [two]; exact ⟨Nat.le_succ 1, Nat.le_refl 2⟩
  · rw [either]; exact between_cycles_range (Nat.le_succ 1) draws

/-- Joining the low `n` bytes of a pattern gives back its low `8n` bits (R51). -/
theorem joinBytes_splitBytes_low (n : Nat) (v : Word) :
    (joinBytes (splitBytes n v)).extractLsb' 0 (8 * n) = v.setWidth (8 * n) := by
  refine BitVec.eq_of_getLsbD_eq fun i hi => ?_
  rw [BitVec.getLsbD_extractLsb', Nat.zero_add, joinBytes_splitBytes_bit, BitVec.getLsbD_setWidth, decide_eq_true hi,
    Bool.true_and]

/-- An instruction whose meaning is `loadOp` completes with `v'`, where that is the extension of the bytes there. -/
theorem does_of_load {ext : Word → Word} {rd : Reg} {v' : Word} (meaning : exec i s = loadOp ilen n ext rd addr s)
    (permitted : Permitted [.read] n addr s) (holds : HoldsAt n addr v s)
    (value : ext (joinBytes (splitBytes n v)) = v') : Does i s (Computed ilen 1 2 rd v' s) :=
  ⟨_, meaning.trans (loadOp_value (memRead_of_holdsAt permitted holds)),
    value ▸ writeBack_computed ilen rd _ (dependencyCost_cycles_range rd _ _)⟩

/-- Settles O7: each meaning is `loadOp`, with an extension that looks at the loaded bits only. -/
theorem loadsReadAndExtend : Obligations.LoadsReadAndExtend := by
  intro s rd rs1 imm u7 u8 addr v
  have word : id (joinBytes (splitBytes 4 v)) = v := joinBytes_splitBytes_four v
  have half : (joinBytes (splitBytes 2 v)).extractLsb 15 0 = v.setWidth 16 := joinBytes_splitBytes_low 2 v
  have byte : (joinBytes (splitBytes 1 v)).extractLsb 7 0 = v.setWidth 8 := joinBytes_splitBytes_low 1 v
  refine ⟨?_, ?_, ?_⟩ <;> rintro rfl
  · exact ⟨fun hp hv => does_of_load rfl hp hv word,
      fun hp hv => ⟨does_of_load rfl hp hv (congrArg (BitVec.signExtend 32) half),
        does_of_load rfl hp hv (congrArg (BitVec.setWidth 32) half)⟩,
      fun hp hv => ⟨does_of_load rfl hp hv (congrArg (BitVec.signExtend 32) byte),
        does_of_load rfl hp hv (congrArg (BitVec.setWidth 32) byte)⟩⟩
  · exact fun hp hv => does_of_load rfl hp hv word
  · exact fun hp hv => does_of_load rfl hp hv word

/-! ## Stores -/

/-- An instruction whose meaning is `storeOp` does its store, where both checks of R57 pass. -/
theorem does_of_store (meaning : exec i s = storeOp ilen n addr v s) (permitted : Permitted [.write] n addr s) :
    Does i s (DidStore ilen n addr v s) :=
  ⟨_, meaning.trans (storeOp_ok permitted.naturallyAligned_eq permitted.backedAll_eq), {
    store := { storeBytes_stored n addr v s with }
    pc := rfl
    time := rfl
    regs := fun _ _ => rfl
    csrs := ⟨rfl, rfl, rfl, rfl, rfl, rfl⟩
    monitors := ⟨rfl, rfl, rfl⟩ }⟩

/-- Settles O12: each meaning is `storeOp` of the whole of `rs2`, of which its width takes the low bytes. -/
theorem storesWriteTheirBytes : Obligations.StoresWriteTheirBytes := by
  intro s rs2 rs1 imm u7 u8 addr
  refine ⟨?_, ?_, ?_⟩ <;> rintro rfl
  · exact ⟨does_of_store rfl, does_of_store rfl, does_of_store rfl⟩
  · exact does_of_store rfl
  · exact does_of_store rfl

end Sys2Proof.Machine
end

section
/-! PROOFS. The M extension (43_m_extension.md): each instruction writes back one word, and that word is the integers'
product, quotient or remainder (R190 to R198). -/

namespace Sys2Proof.Machine

open Sys2Proof

/-! ## The eight instructions complete -/

section
variable (s : State) (rd rs1 rs2 : Reg)

theorem does_mul : Does (.mul rd rs1 rs2) s (Computed 4 1 2 rd (mulLow (readReg rs1 s) (readReg rs2 s)) s) :=
  ⟨_, rfl, writeBack_computed 4 rd _ (dependencyCost_cycles_range rd _ _)⟩

theorem does_mulh :
    Does (.mulh rd rs1 rs2) s (Computed 4 18 20 rd (mulHighSigned (readReg rs1 s) (readReg rs2 s)) s) :=
  ⟨_, rfl, writeBack_computed 4 rd _ (between_cycles_range (by decide) _)⟩

theorem does_mulhsu :
    Does (.mulhsu rd rs1 rs2) s (Computed 4 18 20 rd (mulHighMixed (readReg rs1 s) (readReg rs2 s)) s) :=
  ⟨_, rfl, writeBack_computed 4 rd _ (between_cycles_range (by decide) _)⟩

theorem does_mulhu :
    Does (.mulhu rd rs1 rs2) s (Computed 4 18 18 rd (mulHighUnsigned (readReg rs1 s) (readReg rs2 s)) s) :=
  ⟨_, rfl, writeBack_computed 4 rd _ ⟨le_rfl, le_rfl⟩⟩

theorem does_div : Does (.div rd rs1 rs2) s (Computed 4 18 19 rd (divSigned (readReg rs1 s) (readReg rs2 s)) s) :=
  ⟨_, rfl, writeBack_computed 4 rd _ (between_cycles_range (by decide) _)⟩

theorem does_rem : Does (.rem rd rs1 rs2) s (Computed 4 18 19 rd (remSigned (readReg rs1 s) (readReg rs2 s)) s) :=
  ⟨_, rfl, writeBack_computed 4 rd _ (between_cycles_range (by decide) _)⟩

theorem does_divu : Does (.divu rd rs1 rs2) s (Computed 4 18 18 rd (divUnsigned (readReg rs1 s) (readReg rs2 s)) s) :=
  ⟨_, rfl, writeBack_computed 4 rd _ ⟨le_rfl, le_rfl⟩⟩

theorem does_remu : Does (.remu rd rs1 rs2) s (Computed 4 18 18 rd (remUnsigned (readReg rs1 s) (readReg rs2 s)) s) :=
  ⟨_, rfl, writeBack_computed 4 rd _ ⟨le_rfl, le_rfl⟩⟩

end

/-! ## Products as integers (R190 to R193) -/

/-- The low half is the same whether the operands are read signed or unsigned. -/
theorem mulLow_eq_ofNat (a b : Word) : mulLow a b = BitVec.ofNat 32 (a.toNat * b.toNat) := by
  rw [mulLow, BitVec.ofInt_mul, BitVec.ofInt_toInt, BitVec.ofInt_toInt, BitVec.ofNat_mul, BitVec.ofNat_toNat,
    BitVec.ofNat_toNat, BitVec.setWidth_eq, BitVec.setWidth_eq]

/-- The upper half of a product is its quotient by 2^32, rounded down. -/
theorem upperProduct_eq_ofInt (p : Int) : upperProduct p = BitVec.ofInt 32 (p / 2 ^ 32) := by
  refine BitVec.eq_of_toNat_eq ?_
  rw [upperProduct, BitVec.extractLsb_toNat, BitVec.toNat_ofInt, BitVec.toNat_ofInt, Nat.shiftRight_eq_div_pow]
  omega

theorem mulHighUnsigned_eq_ofNat (a b : Word) :
    mulHighUnsigned a b = BitVec.ofNat 32 (a.toNat * b.toNat / 2 ^ 32) := by
  rw [mulHighUnsigned, upperProduct_eq_ofInt, ← BitVec.ofInt_natCast]
  norm_cast

/-- Settles O15: the words written are the halves of the integers' products. -/
theorem multiplyResults : Obligations.MultiplyResults := by
  rintro s rd rs1 rs2 a b rfl rfl
  rw [← mulLow_eq_ofNat, ← upperProduct_eq_ofInt, ← upperProduct_eq_ofInt, ← mulHighUnsigned_eq_ofNat]
  exact ⟨does_mul s rd rs1 rs2, does_mulh s rd rs1 rs2, does_mulhsu s rd rs1 rs2, does_mulhu s rd rs1 rs2⟩

/-! ## Quotients and remainders as integers (R194 to R197) -/

/-- A word is zero exactly when the integer it stands for is: the test of the model's first arm. -/
theorem toInt_eq_zero_iff (b : Word) : b.toInt = 0 ↔ b = 0 := BitVec.toInt_inj (y := 0)

theorem toNat_eq_zero_iff (b : Word) : b.toNat = 0 ↔ b = 0 := BitVec.toNat_inj (y := 0)

/-- The overflow arm agrees with the rounded quotient 2^31, which is -2^31 modulo 2^32. -/
theorem divSigned_eq_ofInt (a b : Word) :
    divSigned a b = BitVec.ofInt 32 (if b = 0 then -1 else a.toInt.tdiv b.toInt) := by
  simp only [divSigned, toInt_eq_zero_iff]
  split
  case isTrue => rfl
  case isFalse =>
    split
    case isTrue overflow =>
      obtain ⟨ha, hb⟩ := overflow
      rw [ha, hb]; decide
    case isFalse => rfl

/-- Division by zero leaves the dividend and overflow leaves 0, as the integers' remainder does. -/
theorem remSigned_eq_ofInt (a b : Word) : remSigned a b = BitVec.ofInt 32 (a.toInt.tmod b.toInt) := by
  rw [remSigned, ← Int.tmod_def]
  split
  case isTrue zero => rw [zero, Int.tmod_zero, BitVec.ofInt_toInt]
  case isFalse =>
    split
    case isTrue overflow =>
      obtain ⟨ha, hb⟩ := overflow
      rw [ha, hb]; decide
    case isFalse => rfl

theorem divSigned_overflow : divSigned 0x80000000#32 0xFFFFFFFF#32 = 0x80000000#32 := by decide

theorem remSigned_overflow : remSigned 0x80000000#32 0xFFFFFFFF#32 = 0 := by decide

theorem divUnsigned_eq_ite (a b : Word) :
    divUnsigned a b = if b = 0 then 0xFFFFFFFF#32 else BitVec.ofNat 32 (a.toNat / b.toNat) := by
  simp only [divUnsigned, toNat_eq_zero_iff]; rfl

theorem remUnsigned_eq_ite (a b : Word) :
    remUnsigned a b = if b = 0 then a else BitVec.ofNat 32 (a.toNat % b.toNat) := by
  simp only [remUnsigned, toNat_eq_zero_iff]

theorem abs_tmod_lt (a : Int) {b : Int} (h : b ≠ 0) : |a.tmod b| < |b| := by
  rw [Int.abs_eq_natAbs, Int.abs_eq_natAbs, Int.natAbs_tmod]
  exact Int.ofNat_lt.2 (Nat.mod_lt _ (Int.natAbs_pos.2 h))

/-- The remainder is zero or has the dividend's sign. -/
theorem tmod_mul_self_nonneg (a b : Int) : 0 ≤ a.tmod b * a := by
  obtain ha | ha := le_total 0 a
  · exact mul_nonneg (Int.tmod_nonneg b ha) ha
  · have neg : 0 ≤ (-a).tmod b := Int.tmod_nonneg b (Int.neg_nonneg.2 ha)
    rw [Int.neg_tmod, Int.neg_nonneg] at neg
    exact mul_nonneg_of_nonpos_of_nonpos neg ha

/-- Settles O16: the quotient and remainder are the integers', rounded toward zero. -/
theorem divideResults : Obligations.DivideResults := by
  rintro s rd rs1 rs2 a b rfl rfl
  have hdiv := does_div s rd rs1 rs2
  have hrem := does_rem s rd rs1 rs2
  refine ⟨?signed, ?overflow, ?divu, ?remu⟩
  case signed =>
    rw [divSigned_eq_ofInt] at hdiv
    rw [remSigned_eq_ofInt] at hrem
    refine ⟨_, _, fun zero => ⟨if_pos zero, ?_⟩, fun nonzero => ?_, hdiv, hrem⟩
    · rw [zero]; exact Int.tmod_zero _
    · rw [if_neg nonzero]
      exact ⟨(Int.mul_tdiv_add_tmod _ _).symm, abs_tmod_lt _ (mt (toInt_eq_zero_iff _).1 nonzero),
        tmod_mul_self_nonneg _ _⟩
  case overflow =>
    intro ha hb
    rw [ha, hb, divSigned_overflow] at hdiv
    rw [ha, hb, remSigned_overflow] at hrem
    exact ⟨hdiv, hrem⟩
  case divu => exact divUnsigned_eq_ite _ _ ▸ does_divu s rd rs1 rs2
  case remu => exact remUnsigned_eq_ite _ _ ▸ does_remu s rd rs1 rs2

/-! ## The tables of R198 -/

/-- An instruction that writes `f` of its operands gives `f a b` for `a` and `b`. -/
theorem givesResult_of_does {i : Reg → Reg → Reg → Instr} {f : Word → Word → Word} {lo hi : Nat} {a b v : Word}
    (meaning : ∀ s rd rs1 rs2, Does (i rd rs1 rs2) s (Computed 4 lo hi rd (f (readReg rs1 s) (readReg rs2 s)) s))
    (value : f a b = v) : GivesResult i a b v := by
  rintro s rd rs1 rs2 rfl rfl
  obtain ⟨t, ht, computed⟩ := meaning s rd rs1 rs2
  exact ⟨t, ht, value ▸ computed.result⟩

section
variable {a b q r qu ru low high mixed highu : Word}

theorem divide_givesResults
    (h : divSigned a b = q ∧ remSigned a b = r ∧ divUnsigned a b = qu ∧ remUnsigned a b = ru) :
    GivesResult .div a b q ∧ GivesResult .rem a b r ∧ GivesResult .divu a b qu ∧ GivesResult .remu a b ru :=
  have ⟨hq, hr, hqu, hru⟩ := h
  ⟨givesResult_of_does does_div hq, givesResult_of_does does_rem hr, givesResult_of_does does_divu hqu,
    givesResult_of_does does_remu hru⟩

theorem multiply_givesResults (h : mulLow a b = low ∧ mulHighSigned a b = high ∧ mulHighMixed a b = mixed ∧
      mulHighUnsigned a b = highu) :
    GivesResult .mul a b low ∧ GivesResult .mulh a b high ∧ GivesResult .mulhsu a b mixed ∧
      GivesResult .mulhu a b highu :=
  have ⟨hlow, hhigh, hmixed, hhighu⟩ := h
  ⟨givesResult_of_does does_mul hlow, givesResult_of_does does_mulh hhigh, givesResult_of_does does_mulhsu hmixed,
    givesResult_of_does does_mulhu hhighu⟩

end

theorem divide_by_zero (a : Word) : divSigned a 0 = 0xFFFFFFFF ∧ remSigned a 0 = a ∧ divUnsigned a 0 = 0xFFFFFFFF ∧
    remUnsigned a 0 = a := ⟨rfl, rfl, rfl, rfl⟩

theorem zero_divide {b : Word} (h : b ≠ 0) : divSigned 0 b = 0 ∧ remSigned 0 b = 0 ∧ divUnsigned 0 b = 0 ∧
    remUnsigned 0 b = 0 := by
  rw [divSigned_eq_ofInt, remSigned_eq_ofInt, divUnsigned_eq_ite, remUnsigned_eq_ite, if_neg h, if_neg h, if_neg h]
  simp

theorem zero_multiply (b : Word) : mulLow 0 b = 0 ∧ mulHighSigned 0 b = 0 ∧ mulHighMixed 0 b = 0 ∧
    mulHighUnsigned 0 b = 0 := by
  simp [mulLow, mulHighSigned, mulHighMixed, mulHighUnsigned, upperProduct_eq_ofInt]

/-- Settles O17: a row of fixed values is evaluated, a row of any value is an equation of the integers. -/
theorem signCombinationTable : Obligations.SignCombinationTable := by
  refine ⟨fun row hrow => divide_givesResults ?quotients, fun a => divide_givesResults (divide_by_zero a),
    fun b hb => divide_givesResults (zero_divide hb), fun row hrow => multiply_givesResults ?products,
    fun b => multiply_givesResults (zero_multiply b)⟩
  case quotients => fin_cases hrow <;> decide
  case products => fin_cases hrow <;> decide

end Sys2Proof.Machine
end

section
/-! PROOFS. The A extension (44_a_extension.md) where nothing raises: `lr.w` reads and reserves, `sc.w` ends in one of
its three ways, and an AMO completes after its lost attempts (R61, R62). -/

namespace Sys2Proof.Machine

open Sys2Proof

variable {s u t : State} {op : Word → Word → Word} {rd rs2 rs1 : Reg} {aq rl : Bool} {addr v old src : Word}
  {retry : State → State} {ks ls : List AccessKind} {n : Nat}

/-! ## Permitted accesses -/

theorem Permitted.mono (h : Permitted ks n addr s) (sub : ls ⊆ ks) : Permitted ls n addr s :=
  ⟨h.aligned, fun k hk => h.backed k (sub hk)⟩

/-- Asking the global monitor changes no answer of the map. -/
theorem OnlyAsked.permitted (a : OnlyAsked s u) (h : Permitted ks n addr s) : Permitted ks n addr u :=
  ⟨h.aligned, fun k hk => (backed_congr a.map k n addr).trans (h.backed k hk)⟩

theorem memWrite_of_permitted (h : Permitted ks n addr s) : memWrite ks n addr v s = .ok (storeBytes n addr v s) :=
  memWrite_ok h.naturallyAligned_eq h.backedAll_eq

/-! ## `lr.w` and `sc.w` -/

/-- `1 + max(d, e)` is 1 or 2 cycles, whatever is executed next (R413). -/
theorem exclusiveCost_cycles_range (rd : Reg) (j : Option Instr) (draws : Nat) :
    1 ≤ (exclusiveCost rd j).cycles draws ∧ (exclusiveCost rd j).cycles draws ≤ 2 := by
  cases j with
  | none => exact between_cycles_range (Nat.le_succ 1) draws
  | some j =>
    rw [exclusiveCost]
    split
    · exact ⟨Nat.le_succ 1, Nat.le_refl 2⟩
    · exact dependencyCost_cycles_range rd (some j) draws

/-- Once its read gives a value, `lr.w` is a write-back from the state with the local monitor set by the answer. -/
theorem exec_lrW_value (h : memRead .load exclusiveReadKinds 4 (readReg rs1 s) s = .value v) :
    ∃ t, exec (.lrW rd rs1 aq rl) s = .next t ∧
      Computed 4 1 2 rd v ((afterReadAnswer s).setLm (decide (readAnswer s = .granted))) t :=
  ⟨_, by simp only [exec, execLrW, h]; rfl, writeBack_computed 4 rd v (exclusiveCost_cycles_range rd _ _)⟩

/-- Settles O18: the value is written back whatever the global monitor answers; its answer is the local monitor's. -/
theorem loadReservedReadsAndReserves : Obligations.LoadReservedReadsAndReserves := by
  intro s rd rs1 aq rl v permitted holds
  obtain ⟨t, meaning, did⟩ := exec_lrW_value (memRead_word_of_holdsAt permitted holds)
  obtain ⟨regs, csrs, ⟨lm, reads, writes⟩, memory⟩ := did.rest
  refine ⟨t, meaning, did.result, did.pc, did.time, regs, { csrs with }, { memory with },
    fun g rest hr => ⟨?reads, ?lm⟩, writes⟩
  case reads => exact reads.trans (congrArg List.tail hr)
  case lm => rw [lm, State.setLm_lm, readAnswer_of_cons hr]

/-- The end of an `sc.w` is that of the obligations where nothing before it touched what it is to keep (R212). -/
theorem scDone_didSc {code : Word} (regs : u.regs = s.regs) (pc : u.pc = s.pc) (cycles : u.cycles = s.cycles)
    (csrs : KeepsCsrs s u) (reads : u.monitorReads = s.monitorReads) : DidSc rd code s (scDone rd code u) := by
  have did : Computed 4 1 2 rd code (u.setLm false) (scDone rd code u) :=
    writeBack_computed 4 rd code (exclusiveCost_cycles_range rd _ _)
  exact {
    result := did.result
    lm := rfl
    pc := did.pc.trans (congrArg (· + 4) pc)
    time := by rw [Took, ← cycles]; exact did.time
    regs := fun r hr => (did.rest.regs r hr).trans (readReg_congr regs r)
    csrs := { csrs with }
    reads := reads }

theorem scDone_keepsMemory (code : Word) (a : OnlyAsked s u) : KeepsMemory s (scDone rd code u) :=
  { a.keepsMemory with }

theorem storeConditional_clear (hl : s.lm = false) : storeConditional rd addr v s = scDone rd 1 s := by
  simp only [storeConditional, hl, Bool.not_false, if_true]

theorem storeConditional_lost (hl : s.lm = true) (hw : writeAnswer s = .lost) :
    storeConditional rd addr v s = scDone rd 1 (afterWriteAnswer s) := by
  simp only [storeConditional, hl, hw, Bool.not_true, Bool.false_eq_true, if_false]

theorem storeConditional_ok (hl : s.lm = true) (hw : writeAnswer s = .ok)
    (h : memWrite exclusiveWriteKinds 4 addr v (afterWriteAnswer s) = .ok t) :
    storeConditional rd addr v s = scDone rd 0 t := by
  simp only [storeConditional, hl, hw, h, Bool.not_true, Bool.false_eq_true, if_false]

/-- Settles O19: an aligned `sc.w` is `storeConditional`, whose three ways that raise nothing all end in `scDone`. -/
theorem storeConditionalOutcomes : Obligations.StoreConditionalOutcomes := by
  intro s rd rs2 rs1 aq rl writes aligned
  have asked : OnlyAsked s (afterWriteAnswer s) := (OnlyAsked.refl s).afterWriteAnswer
  refine ⟨fun hl => ?clear, fun hl hw => ?lost, fun hl hw permitted => ?ok⟩
  case clear =>
    exact ⟨_, (exec_scW_aligned aligned).trans (congrArg _ (storeConditional_clear hl)),
      scDone_didSc rfl rfl rfl (OnlyAsked.refl s).csrs rfl, scDone_keepsMemory 1 (.refl s), rfl⟩
  case lost =>
    exact ⟨_, (exec_scW_aligned aligned).trans (congrArg _ (storeConditional_lost hl (writeAnswer_of_cons hw))),
      scDone_didSc rfl rfl rfl asked.csrs rfl, scDone_keepsMemory 1 asked, congrArg List.tail hw⟩
  case ok =>
    have write := memWrite_of_permitted (v := readReg rs2 s) (asked.permitted permitted)
    have stored := asked.stored_of_stored (storeBytes_stored 4 (readReg rs1 s) (readReg rs2 s) _)
    exact ⟨_, (exec_scW_aligned aligned).trans (congrArg _ (storeConditional_ok hl (writeAnswer_of_cons hw) write)),
      scDone_didSc rfl rfl rfl { asked.csrs with } rfl, { stored with }, congrArg List.tail hw⟩

/-! ## AMOs -/

theorem amoAttempt_ok (hr : readAnswer s = .granted) (hw : writeAnswer (afterReadAnswer s) = .ok)
    (h : memWrite exclusiveWriteKinds 4 addr (op old src) (afterWriteAnswer (afterReadAnswer s)) = .ok t) :
    amoAttempt op rd addr old src retry s = charge (.exactly 4) (advance 4 (writeReg rd old t)) := by
  simp only [amoAttempt, hr, hw, h]

/-- After `m` lost attempts and `k` more, one whose write is answered `ok` completes, if that many are made (R62). -/
theorem amoAttempts_completed {k m : Nat} {reads : List ReadAnswer} {writes : List WriteAnswer} (hkn : k ≤ n)
    (permitted : Permitted exclusiveWriteKinds 4 addr s) (asked : OnlyAsked s u) (cycles : u.cycles = s.cycles + 4 * m)
    (hr : u.monitorReads = List.replicate (k + 1) .granted ++ reads)
    (hw : u.monitorWrites = List.replicate k .lost ++ .ok :: writes) :
    DidAmo rd addr old (op old src) (m + k + 1) reads writes s (amoAttempts op rd addr old src n u) := by
  induction k generalizing m n u with
  | zero =>
    obtain ⟨retry, first⟩ := amoAttempts_eq_amoAttempt op rd addr old src n
    have asked' := asked.afterReadAnswer.afterWriteAnswer
    rw [first, amoAttempt_ok (readAnswer_of_cons hr) (writeAnswer_of_cons hw)
      (memWrite_of_permitted (asked'.permitted permitted))]
    exact { didAmo_of_onlyAsked asked' cycles with
      reads := congrArg List.tail hr
      writes := congrArg List.tail hw }
  | succ k ih =>
    obtain ⟨n, rfl⟩ : ∃ m, n = m + 1 := ⟨n - 1, by omega⟩
    rw [amoAttempts, amoAttempt_lost (readAnswer_of_cons hr) (writeAnswer_of_cons hw), ← Nat.add_assoc,
      Nat.add_right_comm m k 1]
    refine ih (by omega) (asked.afterReadAnswer.afterWriteAnswer.charge _) ?cycles ?reads ?writes
    case cycles => exact congrArg (· + 4) cycles
    case reads => exact congrArg List.tail hr
    case writes => exact congrArg List.tail hw

/-- Settles O20: each AMO is `amoOp` of its operation, and its attempts cover all the answers listed. -/
theorem amoResultsAfterRetries : Obligations.AmoResultsAfterRetries := by
  rintro s rd rs2 rs1 aq rl _ old _ k reads writes rfl rfl permitted holds hr hw
  have read := memRead_word_of_holdsAt (by' := .storeAmo) (permitted.mono (List.subset_append_left _ _)) holds
  have fuel : k ≤ s.monitorWrites.length := by simp [hw]
  have does : ∀ e ∈ amoOperations rd rs2 rs1 aq rl, Does e.1 s
      (DidAmo rd (readReg rs1 s) old (e.2 old (readReg rs2 s)) (k + 1) reads writes s) := fun e he =>
    ⟨_, (exec_amoOperation he s).trans (amoOp_value read), Nat.zero_add k ▸
      amoAttempts_completed fuel (permitted.mono (List.subset_append_right _ _)) (.refl s) rfl hr hw⟩
  simpa only [amoOperations, List.forall_mem_cons, List.not_mem_nil, false_imp_iff, implies_true, and_true] using does

end Sys2Proof.Machine
end

section
/-! PROOFS. The C extension (45_c_extension.md): what the 16-bit computing instructions compute, and that a 16-bit
instruction is its expansion with length 2: the same shared operation, of the same values (R240, R242). -/

namespace Sys2Proof.Machine

open Sys2Proof

/-! ## Immediates (R243 to R269) -/

theorem add_zext_eq_ofNat {n : Nat} (a : Word) (u : BitVec n) : a + zext u = BitVec.ofNat 32 (a.toNat + u.toNat) := by
  rw [BitVec.ofNat_add, BitVec.ofNat_toNat, BitVec.ofNat_toNat, BitVec.setWidth_eq, zext]

theorem upperImm_eq_ofInt (imm : BitVec 20) : upperImm imm = BitVec.ofInt 32 (imm.toInt * 4096) := by
  refine BitVec.eq_of_toNat_eq ?_
  have bound := imm.isLt
  rw [upperImm_eq_ofNat, BitVec.toNat_ofNat, BitVec.toNat_ofInt, BitVec.toInt_eq_toNat_cond]
  split <;> omega

theorem cLuiImm_toInt (imm : BitVec 6) : (cLuiImm imm).toInt = imm.toInt := BitVec.toInt_signExtend_of_le (by decide)

/-- An expansion's immediate, sign-extended from the 16-bit form's, is extended to the same word. -/
theorem sext_signExtend {n k : Nat} (v : BitVec n) (h : n ≤ k := by decide) : sext (v.signExtend k) = sext v :=
  congrArg (BitVec.ofInt 32) (BitVec.toInt_signExtend_of_le h)

/-- An expansion's immediate, zero-extended from the 16-bit form's, has sign bit 0. -/
theorem sext_setWidth {n k : Nat} (u : BitVec n) (h : n < k := by decide) : sext (u.setWidth k) = zext u := by
  have bound : u.toNat < 2 ^ k := Nat.lt_of_lt_of_le u.isLt (Nat.pow_le_pow_right (by decide) (Nat.le_of_lt h))
  have sign : (u.setWidth k).msb = false := by
    rw [BitVec.msb_setWidth, BitVec.getLsbD_of_ge u _ (by omega), Bool.and_false]
  refine BitVec.eq_of_toNat_eq ?_
  rw [sext, BitVec.signExtend_eq_setWidth_of_msb_false sign, zext, BitVec.toNat_setWidth, BitVec.toNat_setWidth,
    Nat.mod_eq_of_lt bound, BitVec.toNat_setWidth]

/-! ## The computing instructions -/

/-- Settles O41: each meaning is `compute` of a word that is the integers' result. -/
theorem compressedComputeResults : Obligations.CompressedComputeResults := by
  rintro s rd rs2 imm shamt imm10 a b rfl rfl
  have himm : (sext imm).toInt = imm.toInt := sext_toInt imm (by decide)
  have himm10 : (sext imm10).toInt = imm10.toInt := sext_toInt imm10 (by decide)
  exact ⟨does_of_compute rfl (add_zext_eq_ofNat _ _),
    ⟨_, rfl, rfl, rfl, keepsAllBut_of_regs (regs := s.regs) fun _ _ => rfl⟩,
    does_of_compute rfl (himm ▸ add_eq_ofInt _ _), does_of_compute rfl rfl,
    does_of_compute rfl (himm10 ▸ add_eq_ofInt _ _), does_of_compute rfl (cLuiImm_toInt imm ▸ upperImm_eq_ofInt _),
    does_of_compute rfl (shiftRightLogical_eq_ofNat _ _), does_of_compute rfl (shiftRightArith_eq_ofInt _ _),
    does_of_compute rfl rfl, does_of_compute rfl (sub_eq_ofInt _ _), does_of_compute rfl rfl, does_of_compute rfl rfl,
    does_of_compute rfl rfl, does_of_compute rfl (shiftLeft_eq_ofNat _ _), does_of_compute rfl rfl,
    does_of_compute rfl (add_eq_ofInt _ _)⟩

/-! ## The same effect, but for the length -/

/-- What an instruction of 2 bytes and one of 4 answer from `s`, where they do the same: they complete in states that
differ in the registers `but` and the counts of cycles and draws only, at the same pc or both past the instruction; or
they fault for the same reason. -/
inductive SameButLength (but : List Reg) (s : State) : Result → Result → Prop
  | completed {t u : State} (keeps : KeepsAllBut but u t) (pc : t.pc = u.pc ∨ t.pc = s.pc + 2 ∧ u.pc = s.pc + 4) :
      SameButLength but s (.next t) (.next u)
  | faulted (f : Fault) : SameButLength but s (.fault f) (.fault f)

namespace SameButLength

variable {but : List Reg} {s u : State} {rd : Reg} {addr addr' v v' : Word}

theorem refl (t : State) : SameButLength but s (.next t) (.next t) :=
  .completed ⟨fun _ _ => rfl, ⟨rfl, rfl, rfl, rfl, rfl, rfl⟩, ⟨rfl, rfl, rfl⟩, ⟨fun _ => rfl, rfl, rfl⟩⟩ (.inl rfl)

/-- Whatever an instruction did before it goes on to the next one, and whatever that costs. -/
theorem advances {c c' : Cost} (pc : u.pc = s.pc) :
    SameButLength but s (.next (charge c (advance 2 u))) (.next (charge c' (advance 4 u))) :=
  .completed ⟨fun _ _ => rfl, ⟨rfl, rfl, rfl, rfl, rfl, rfl⟩, ⟨rfl, rfl, rfl⟩, ⟨fun _ => rfl, rfl, rfl⟩⟩
    (.inr ⟨congrArg (· + 2) pc, congrArg (· + 4) pc⟩)

theorem computes (value : v = v') : SameButLength but s (compute 2 rd v s) (compute 4 rd v' s) :=
  value ▸ advances (writeReg_pc s rd v)

theorem loads {n : Nat} {ext : Word → Word} (address : addr = addr') :
    SameButLength but s (loadOp 2 n ext rd addr s) (loadOp 4 n ext rd addr' s) := by
  subst address
  cases read : memRead .load [.read] n addr s with
  | raises e => rw [loadOp_raises read, loadOp_raises read]; exact refl _
  | faults f => rw [loadOp_faults read, loadOp_faults read]; exact faulted f
  | value v => rw [loadOp_value read, loadOp_value read]; exact advances (writeReg_pc s rd _)

theorem stores {n : Nat} (address : addr = addr') :
    SameButLength but s (storeOp 2 n addr v s) (storeOp 4 n addr' v s) := by
  subst address
  cases write : memWrite [.write] n addr v s with
  | error e => rw [storeOp_error write, storeOp_error write]; exact refl _
  | ok t =>
    obtain ⟨aligned, backed, -⟩ := memWrite_ok_inv write
    rw [storeOp_ok aligned backed, storeOp_ok aligned backed]
    exact advances (storeBytes_pc s n addr v)

/-- The link is the address after the instruction, so it depends on the length (R242). -/
theorem jumps (link : rd ∈ but ∨ rd = 0) (target : addr = addr') :
    SameButLength but s (jump 2 rd addr s) (jump 4 rd addr' s) := by
  subst target
  have regs {r : Reg} (hr : r ∉ but) (v : Word) : readReg r (writeReg rd v s) = readReg r s := by
    rw [readReg_writeReg, if_neg]
    rintro ⟨rfl, nonzero⟩
    exact link.elim hr nonzero
  exact .completed ⟨fun _ hr => (regs hr _).trans (regs hr _).symm, ⟨rfl, rfl, rfl, rfl, rfl, rfl⟩, ⟨rfl, rfl, rfl⟩,
    ⟨fun _ => rfl, rfl, rfl⟩⟩ (.inl rfl)

theorem branches {taken : Bool} (target : addr = addr') :
    SameButLength but s (branch 2 taken addr s) (branch 4 taken addr' s) := by
  subst target
  cases taken with
  | true => exact refl _
  | false => exact advances rfl

/-- What O42 asks of two answers. -/
theorem answers {x y : Result} (same : SameButLength but s x y) :
    (∀ f, x = .fault f ↔ y = .fault f) ∧ (∀ r, x ≠ .refused r ∧ y ≠ .refused r) ∧
    (∀ t, x = .next t → ∃ u, y = .next u ∧ KeepsRegs but u t ∧ KeepsCsrs u t ∧ KeepsMonitors u t ∧ KeepsMemory u t ∧
      (t.pc = u.pc ∨ t.pc = s.pc + 2 ∧ u.pc = s.pc + 4)) := by
  cases same with
  | completed keeps pc =>
    refine ⟨fun f => ⟨nofun, nofun⟩, fun r => ⟨nofun, nofun⟩, fun t ht => ?_⟩
    cases ht
    exact ⟨_, rfl, keeps.regs, keeps.csrs, keeps.monitors, keeps.memory, pc⟩
  | faulted f => exact ⟨fun _ => Iff.rfl, fun r => ⟨nofun, nofun⟩, nofun⟩

end SameButLength

/-! ## Every 16-bit instruction -/

/-- The register that a transfer links, if it does. -/
abbrev linkOf (i : Instr) : List Reg := if classOf i = .transfer then (destination i).toList else []

/-- A 16-bit instruction and its expansion are the same operation, of operands that are extended to the same words. -/
theorem exec_expand_sameButLength {i : Instr} {h : Half} (hi : encodeParcels i = .half h) (s : State) :
    SameButLength (linkOf i) s (exec i s) (exec (expand i) s) := by
  cases i <;> cases hi -- a 32-bit instruction is encoded by a word
  case cNop | cLui | cSrli | cSrai | cSlli | cSub | cXor | cOr | cAnd | cAdd => exact .computes rfl
  case cAddi4spn => exact .computes (congrArg (readReg 2 s + ·) (sext_setWidth _).symm)
  case cAddi | cAddi16sp => exact .computes (congrArg (readReg _ s + ·) (sext_signExtend _).symm)
  case cAndi => exact .computes (congrArg (readReg _ s &&& ·) (sext_signExtend _).symm)
  case cLi => exact .computes ((sext_signExtend _).symm.trans (BitVec.zero_add _).symm)
  case cMv => exact .computes (BitVec.zero_add _).symm
  case cLw | cLwsp => exact .loads (congrArg (readReg _ s + ·) (sext_setWidth _).symm)
  case cSw | cSwsp => exact .stores (congrArg (readReg _ s + ·) (sext_setWidth _).symm)
  case cJal => exact .jumps (.inl (List.mem_singleton_self 1)) (congrArg (s.pc + ·) (sext_signExtend _).symm)
  case cJalr => exact .jumps (.inl (List.mem_singleton_self 1)) (congrArg clearBit0 (BitVec.add_zero _).symm)
  case cJ => exact .jumps (.inr rfl) (congrArg (s.pc + ·) (sext_signExtend _).symm)
  case cJr => exact .jumps (.inr rfl) (congrArg clearBit0 (BitVec.add_zero _).symm)
  case cBeqz | cBnez => exact .branches (congrArg (s.pc + ·) (sext_signExtend _).symm)
  case cEbreak => exact .refl _

/-- Settles O42: the instruction and its expansion do the same, but for the length. -/
theorem compressedIsItsExpansion : Obligations.CompressedIsItsExpansion :=
  fun _ s _ hi _ => (exec_expand_sameButLength hi s).answers

end Sys2Proof.Machine
end

section
/-! PROOFS. Reserved parcels and HINTs (R97, R270): a parcel whose fields exclude every row of the table is no
instruction, and one with the fields that a row asks for is what that row builds. -/

namespace Sys2Proof

open Layout

variable {α β : Type} {L : Layout 16 α} {M : Layout 16 β} {a : α} {b : β} {h : Half}

/-! ## Fields that tell which row hits a parcel -/

theorem Layout.both_read {d : L.bits &&& M.bits = 0} (ha : L.read h = a) (hb : M.read h = b) :
    (L.both M d).read h = (a, b) :=
  Prod.ext ha hb

/-- The parcels in which `L` reads `a`, as a row for other rows to exclude; nothing asks what it builds. -/
def Layout.row (L : Layout 16 α) (a : α) : Row16 := ⟨L.write a, L.bits, [], buildCEbreak⟩

theorem Layout.row_hits (ha : L.read h = a) : (L.row a).hits h = true :=
  Row16.hits_iff.2 ⟨ha ▸ (L.write_read h).symm, rfl⟩

theorem decode16_eq_none_of_read (ha : L.read h = a) (excludes : ∀ r ∈ rows16, (L.row a).excludes r = true) :
    decode16 h = none :=
  Machine.decode16_eq_none fun r hr => Row16.not_both (excludes r hr) (row_hits ha)

/-- A parcel with the fields that a row asks for is what the row builds, where that is well formed. -/
theorem decode16_eq_some_of_read {constraints : List (Half × Half)} {build : Half → Instr} (ha : L.read h = a)
    (row : rows16.find? (fun r => r.mask == L.bits && r.pattern == L.write a) =
      some ⟨L.write a, L.bits, constraints, build⟩)
    (wf : (build h).wellFormed = true) : decode16 h = some (build h) := by
  have hr := List.mem_of_find?_eq_some row
  exact decode16_eq_some hr (Row16.hits_iff.2 ⟨ha ▸ (L.write_read h).symm, (rows16_wellFormed _ hr h).symm.trans wf⟩)

/-! ## The fields -/

abbrev quadrantAt : Layout 16 (BitVec 2) := slice 0 2

/-- Bits 15:13 and the quadrant: what the opcode table's rows are grouped by. -/
abbrev funct3At : Layout 16 (BitVec 3 × BitVec 2) := (slice 13 3).both quadrantAt

/-- Bits 15:12 and the quadrant. -/
abbrev funct4At : Layout 16 (BitVec 4 × BitVec 2) := (slice 12 4).both quadrantAt

/-- Bits 15:10 and the quadrant. -/
abbrev funct6At : Layout 16 (BitVec 6 × BitVec 2) := (slice 10 6).both quadrantAt

/-- Bits 11:10 of a shift, its bit 12, funct3 and the quadrant. -/
abbrev shiftAt : Layout 16 (BitVec 2 × Bool × BitVec 3 × BitVec 2) := (slice 10 2).both ((bit 12).both funct3At)

theorem quadrant0_excludes_rows : ∀ f ∈ [1#3, 3#3, 4#3, 5#3, 7#3], ∀ r ∈ rows16,
    (funct3At.row (f, 0)).excludes r = true := by decide

theorem quadrant2_excludes_rows : ∀ f ∈ [1#3, 3#3, 5#3, 7#3], ∀ r ∈ rows16,
    (funct3At.row (f, 2)).excludes r = true := by decide

theorem longShift_excludes_rows : ∀ o ∈ [0#2, 1#2], ∀ r ∈ rows16,
    (shiftAt.row (o, true, 4, 1)).excludes r = true := by decide

/-- Settles O49: the fields of a reserved parcel differ from every row's pattern or violate its constraints. -/
theorem reservedParcelsIllegal : Obligations.ReservedParcelsIllegal := by
  intro h
  refine ⟨?zero, fun q f => ?funct3Quadrant0, fun q f imm => ?addi4spn, fun q f imm => ?addi16spOrLui,
    fun q f op long => ?shift, fun q f long => ?slli, fun q f => ?funct6, fun q f reg => ?lwsp, ?jr,
    fun q f => ?funct3Quadrant2, fun q f reg => ?nop, fun q f reg => ?addi, fun q f => ?li, fun q f reg imm => ?lui,
    fun q f rs2 => ?mv, fun q f rs2 => ?add, fun q f => ?cslli, fun q f => ?srli, fun q f => ?srai⟩
  case zero | jr => rintro rfl; rfl
  case funct3Quadrant0 => exact decode16_eq_none_of_read (both_read rfl q) (quadrant0_excludes_rows _ f)
  case addi4spn =>
    have fields : ((slice 5 8).both funct3At).read h = (0, 0, 0) := both_read imm (both_read f q)
    exact decode16_eq_none_of_read fields (by decide)
  case addi16spOrLui =>
    have fields : (imm6At.both funct3At).read h = (0, 3, 1) := both_read imm (both_read f q)
    exact decode16_eq_none_of_read fields (by decide)
  case shift =>
    have fields : shiftAt.read h = (h.extractLsb 11 10, true, 4, 1) := both_read rfl (both_read long (both_read f q))
    exact decode16_eq_none_of_read fields (longShift_excludes_rows _ op)
  case slli =>
    have fields : ((bit 12).both funct3At).read h = (true, 0, 2) := both_read long (both_read f q)
    exact decode16_eq_none_of_read fields (by decide)
  case funct6 =>
    have fields : funct6At.read h = (0x27, 1) := both_read f q
    exact decode16_eq_none_of_read fields (by decide)
  case lwsp =>
    have fields : (regAt.both funct3At).read h = (0, 2, 2) := both_read reg (both_read f q)
    exact decode16_eq_none_of_read fields (by decide)
  case funct3Quadrant2 => exact decode16_eq_none_of_read (both_read rfl q) (quadrant2_excludes_rows _ f)
  case nop =>
    have fields : (regAt.both funct3At).read h = (0, 0, 1) := both_read reg (both_read f q)
    exact decode16_eq_some_of_read fields rfl rfl
  case addi =>
    have fields : funct3At.read h = (0, 1) := both_read f q
    exact decode16_eq_some_of_read fields rfl (bne_iff_ne.2 reg)
  case li =>
    have fields : funct3At.read h = (2, 1) := both_read f q
    exact decode16_eq_some_of_read fields rfl rfl
  case lui =>
    have fields : funct3At.read h = (3, 1) := both_read f q
    have wellFormed : (halfReg h != 2 && halfImm6 h != 0) = true :=
      Bool.and_eq_true_iff.2 ⟨bne_iff_ne.2 reg, bne_iff_ne.2 imm⟩
    exact decode16_eq_some_of_read fields rfl wellFormed
  case mv =>
    have fields : funct4At.read h = (8, 2) := both_read f q
    exact decode16_eq_some_of_read fields rfl (bne_iff_ne.2 rs2)
  case add =>
    have fields : funct4At.read h = (9, 2) := both_read f q
    exact decode16_eq_some_of_read fields rfl (bne_iff_ne.2 rs2)
  case cslli =>
    have fields : funct4At.read h = (0, 2) := both_read f q
    exact decode16_eq_some_of_read fields rfl rfl
  case srli =>
    have fields : funct6At.read h = (0x20, 1) := both_read f q
    exact decode16_eq_some_of_read fields rfl (isPrime_halfHigh h)
  case srai =>
    have fields : funct6At.read h = (0x21, 1) := both_read f q
    exact decode16_eq_some_of_read fields rfl (isPrime_halfHigh h)

end Sys2Proof
end

section
/-! PROOFS. Zicsr and trap requests (46_zicsr_privileged.md): a CSR instruction reads its register as the obligations
allow, writes it at most once and completes in 1 cycle; `ecall` and the two breakpoints trap in 3. -/

namespace Sys2Proof

/-- No instruction has two encodings: a word decodes to an instruction exactly where it is its encoding (R94). -/
theorem decode32_eq_some_iff {i : Instr} {x : Word} (wf : i.wellFormed = true) (encoding : encodeParcels i = .word x)
    (w : Word) : decode32 w = some i ↔ w = x := by
  constructor
  · intro h
    obtain ⟨-, encodes⟩ := encodeParcels_of_decode (e := .word w) h
    exact Encoded.word.inj (encodes.symm.trans encoding)
  · rintro rfl
    have decodes := decode_encodeParcels i wf
    rwa [encoding] at decodes

end Sys2Proof

namespace Sys2Proof.Machine

open Sys2Proof

variable {i : Instr} {s : State} {rd : Reg} {csr : BitVec 12} {c : Csr}

/-! ## One read, and at most one write (R280) -/

/-- What a CSR reads as is what the obligations allow: a legal `mcause` reads as its own value (R33). -/
theorem csrValue_csrReads (c : Csr) (s : State) : CsrReads c (csrValue c s) s := by
  cases c with
  | mstatus => exact (mstatusWord_eq s.mstatus).trans (BitVec.or_assoc ..).symm
  | mcause => exact fun legal => if_pos ((mcauseLegal_iff s.mcause).2 legal)
  | mtvec | mscratch | mepc | mtval => rfl

/-- `CsrWrite`, where the instruction makes one. -/
def csrUpdate (c : Csr) (new : Option Word) (s : State) : State := new.elim s fun v => csrWrite c v s

theorem csrUpdate_csrAfter (c : Csr) (new : Option Word) (s : State) : CsrAfter c new s (csrUpdate c new s) := by
  cases new <;> cases c <;> exact ⟨rfl, rfl, rfl, rfl, rfl, rfl⟩

theorem csrUpdate_keeps (c : Csr) (new : Option Word) (s : State) :
    (csrUpdate c new s).regs = s.regs ∧ (csrUpdate c new s).pc = s.pc ∧ (csrUpdate c new s).cycles = s.cycles ∧
      KeepsMonitors s (csrUpdate c new s) ∧ KeepsMemory s (csrUpdate c new s) := by
  cases new <;> cases c <;> exact ⟨rfl, rfl, rfl, ⟨rfl, rfl, rfl⟩, ⟨fun _ => rfl, rfl, rfl⟩⟩

/-- The write, then the write-back of what was read: whatever values were drawn, the obligations' effect. -/
theorem csrUpdate_didCsr (c : Csr) (rd : Reg) (old : Word) (new : Option Word) (s : State) (draws : Nat) :
    DidCsr c rd old new s
      (charge (.exactly 1) (advance 4 (writeReg rd old (csrUpdate c new (s.setDraws draws))))) := by
  obtain ⟨regs, pc, cycles, monitors, memory⟩ := csrUpdate_keeps c new (s.setDraws draws)
  exact {
    result := writeReg_wrote rd old _
    csrs := { csrUpdate_csrAfter c new (s.setDraws draws) with }
    pc := congrArg (· + 4) pc
    time := congrArg (· + 1) cycles
    regs := fun r hr => (readReg_writeReg_other _ (List.ne_of_not_mem_cons hr) old).trans (readReg_congr regs r)
    monitors := { monitors with }
    memory := { memory with } }

/-! ## CSR instructions -/

theorem csrOf_of_mem_csrTable : ∀ e ∈ csrTable, csrOf e.1 = some e.2 := by decide

/-- An instruction whose meaning is `csrSwap` writes its operand; to `x0` it reads nothing, and `x0` shows no value. -/
theorem does_of_csrSwap {v : Word} (hc : csrOf csr = some c) (meaning : exec i s = csrSwap rd csr v s) :
    Does i s (DidCsr c rd (csrValue c s) (some v) s) := by
  by_cases hrd : rd = 0
  · subst hrd
    exact ⟨_, meaning.trans (csrSwap_x0 hc), csrUpdate_didCsr c 0 _ (some v) s s.draws⟩
  · exact ⟨_, meaning.trans (csrSwap_known hc hrd), csrUpdate_didCsr c rd _ (some v) s _⟩

/-- An instruction whose meaning is `csrModify` writes what it makes of the read value, unless its operand is 0. -/
theorem does_of_csrModify {writes : Bool} {zero : Prop} [Decidable zero] (f : Word → Word) (hc : csrOf csr = some c)
    (meaning : exec i s = csrModify rd csr writes f s) (iff : writes = true ↔ ¬ zero) :
    Does i s (DidCsr c rd (csrValue c s) (if zero then none else some (f (csrValue c s))) s) := by
  have next := meaning.trans (csrModify_known hc)
  cases writes with
  | true =>
    rw [if_neg (iff.1 rfl)]
    exact ⟨_, next, csrUpdate_didCsr c rd _ (some _) s _⟩
  | false =>
    rw [if_pos (not_not.1 (mt iff.2 Bool.false_ne_true))]
    exact ⟨_, next, csrUpdate_didCsr c rd _ none s _⟩

/-- Settles O23: both are `csrSwap`, of `rs1`'s old value or of the zero-extended immediate. -/
theorem csrSwapWrites : Obligations.CsrSwapWrites := by
  intro s rd rs1 uimm e he
  have hc := csrOf_of_mem_csrTable e he
  have reads := csrValue_csrReads e.2 s
  exact ⟨⟨_, reads, does_of_csrSwap hc rfl⟩, ⟨_, reads, does_of_csrSwap hc rfl⟩⟩

/-- Settles O24: the four are `csrModify`, which writes unless the register number or the immediate is 0. -/
theorem csrSetAndClearBits : Obligations.CsrSetAndClearBits := by
  intro s rd rs1 uimm e he
  have hc := csrOf_of_mem_csrTable e he
  have reads := csrValue_csrReads e.2 s
  refine ⟨⟨_, reads, ?csrrs⟩, ⟨_, reads, ?csrrc⟩, ⟨_, reads, ?csrrsi⟩, ⟨_, reads, ?csrrci⟩⟩
  case csrrs => exact does_of_csrModify (fun t => t ||| readReg rs1 s) hc rfl bne_iff_ne
  case csrrc => exact does_of_csrModify (fun t => t &&& ~~~ readReg rs1 s) hc rfl bne_iff_ne
  case csrrsi => exact does_of_csrModify (fun t => t ||| zext uimm) hc rfl bne_iff_ne
  case csrrci => exact does_of_csrModify (fun t => t &&& ~~~ zext uimm) hc rfl bne_iff_ne

/-! ## Trap requests (R287, R288) -/

/-- The handler's address ends in two zero bits (R30, R370). -/
theorem trapTarget_toNat_mod_four (s : State) : (trapTarget s).toNat % 4 = 0 := by
  rw [trapTarget, BitVec.toNat_append, ← Nat.shiftLeft_add_eq_or_of_lt (0#2).isLt, Nat.shiftLeft_eq]
  exact Nat.mul_mod_left _ 4

/-- An instruction whose meaning is to take an exception that costs 3 traps in 3 cycles, and asks no monitor (R418). -/
theorem does_of_takeTrap {e : Exception} (meaning : exec i s = .next (takeTrap e s)) (cost : e.cost = .exactly 3) :
    Does i s fun t => Trapped e.code s t ∧ t.cycles = s.cycles + 3 ∧ KeepsMonitors s t := by
  have cycles : (takeTrap e s).cycles = s.cycles + 3 := by rw [takeTrap_cycles, cost]; rfl
  exact ⟨_, meaning, (OnlyAsked.refl s).trapped e, cycles, rfl, rfl, rfl⟩

/-- Settles O27: `ecall` has one encoding, and its meaning is the trap, which goes to a multiple of 4. -/
theorem ecallTraps : Obligations.EcallTraps := by
  refine ⟨decode32_eq_some_iff rfl rfl, fun s => ?_⟩
  obtain ⟨t, meaning, trapped, cycles, monitors⟩ :=
    does_of_takeTrap (i := .ecall) (s := s) (e := .environmentCallFromMMode) rfl rfl
  have aligned : t.pc.toNat % 4 = 0 := trapped.pc ▸ trapTarget_toNat_mod_four s
  exact ⟨t, meaning, trapped, aligned, cycles, monitors⟩

/-- Settles O28: the two encodings are theirs, and both mean the same trap. -/
theorem breakpointTraps : Obligations.BreakpointTraps :=
  ⟨decode_encodeParcels .ebreak rfl, decode_encodeParcels .cEbreak rfl, fun _ =>
    ⟨does_of_takeTrap (e := .breakpoint) rfl rfl, does_of_takeTrap (e := .breakpoint) rfl rfl⟩⟩

end Sys2Proof.Machine
end

section
/-! PROOFS. Exceptions and the return from one (60_exceptions.md), and the fences and `wfi`
(49_unlisted_fence_mret_wfi.md). -/

namespace Sys2Proof.Machine

open Sys2Proof

/-! ## Taking an exception (R370) -/

theorem takeTrap_keepsMonitors (e : Exception) (s : State) : KeepsMonitors s (takeTrap e s) := ⟨rfl, rfl, rfl⟩

/-- Settles O29: the eight pairs are those of R360's table, and a trap is one trap whatever the exception. -/
theorem trapEntrySaves : Obligations.TrapEntrySaves := by
  intro s info c hc
  have code : c.1 = c.2.code := by
    simp only [List.mem_cons, List.not_mem_nil, or_false] at hc
    rcases hc with rfl | rfl | rfl | rfl | rfl | rfl | rfl | rfl <;> rfl
  exact ⟨code ▸ (OnlyAsked.refl s).trapped c.2, takeTrap_keepsMonitors c.2 s⟩

/-! ## `mret` (R352, R372) -/

/-- What `mret` does: its pc and `mstatus` are the saved ones, and all else but the cycles is kept. -/
theorem does_mret (s : State) : Does .mret s fun t =>
    t.pc = s.mepc ∧ t.mstatus = { mie := s.mstatus.mpie, mpie := true } ∧ t.mtvec = s.mtvec ∧
    t.mscratch = s.mscratch ∧ t.mepc = s.mepc ∧ t.mcause = s.mcause ∧ t.mtval = s.mtval ∧ KeepsRegs [] s t ∧
    KeepsMonitors s t ∧ KeepsMemory s t :=
  ⟨charge .unknown (returnFromTrap s), rfl, rfl, rfl, rfl, rfl, rfl, rfl, rfl, fun _ _ => rfl, ⟨rfl, rfl, rfl⟩,
    ⟨fun _ => rfl, rfl, rfl⟩⟩

/-- Settles O30: the word is `mret`'s encoding. -/
theorem mretReturns : Obligations.MretReturns :=
  ⟨decode_encodeParcels .mret rfl, does_mret⟩

/-- Clearing bit 0 of an even address changes nothing (R32). -/
theorem clearBit0_of_even {v : Word} (h : v.getLsbD 0 = false) : clearBit0 v = v := by
  have mask : (0xFFFFFFFE : Word) = ~~~ BitVec.twoPow 32 0 := by decide
  refine BitVec.eq_of_getLsbD_eq fun i hi => ?_
  rw [clearBit0, mask, BitVec.getLsbD_and, BitVec.getLsbD_not, BitVec.getLsbD_twoPow]
  cases i with
  | zero => rw [h, Bool.false_and]
  | succ i => simp [hi]

/-- Settles O31: the trap saved the pc, which is even, and MIE, and `mret` puts both back. -/
theorem trapThenReturnRestores : Obligations.TrapThenReturnRestores := by
  intro s e even
  have trap := (OnlyAsked.refl s).trapped e
  have saved : (takeTrap e s).mepc = s.pc := trap.mepc.trans (clearBit0_of_even even)
  obtain ⟨t, meaning, pc, mstatus, mtvec, mscratch, mepc, -, -, regs, monitors, memory⟩ := does_mret (takeTrap e s)
  refine ⟨t, meaning, pc.trans saved, mepc.trans saved, ?mstatus, mtvec.trans trap.mtvec,
    mscratch.trans trap.mscratch, fun r hr => (regs r hr).trans (trap.regs r hr), ?memory, monitors.lm.trans trap.lm⟩
  case mstatus => rw [mstatus, trap.mstatus]
  case memory =>
    exact ⟨fun a => (memory.bytes a).trans (trap.memory.bytes a), memory.stored.trans trap.memory.stored,
      memory.map.trans trap.memory.map⟩

/-! ## `fence`, `fence.i` and `wfi` (R350, R351, R353) -/

/-- Going on to the next instruction moves the pc and charges cycles, and keeps all else. -/
theorem advance_keepsAllBut (c : Cost) (ilen : Word) (s : State) : KeepsAllBut [] s (charge c (advance ilen s)) where
  regs := fun _ _ => rfl
  csrs := ⟨rfl, rfl, rfl, rfl, rfl, rfl⟩
  monitors := ⟨rfl, rfl, rfl⟩
  memory := ⟨fun _ => rfl, rfl, rfl⟩

/-- Settles O32: the three go on to the next instruction, `fence.i` with the set of stored bytes emptied. -/
theorem fencesAndWaitAdvance : Obligations.FencesAndWaitAdvance := by
  intro s fm pred succ imm rs1 rd
  refine ⟨⟨_, rfl, rfl, advance_keepsAllBut .unknown 4 s⟩, ⟨_, rfl, rfl, advance_keepsAllBut .unknown 4 s⟩, ?fenceI⟩
  have kept := advance_keepsAllBut .unknown 4 (s.setStoredSinceFenceI [])
  exact ⟨_, rfl, rfl, kept.memory.stored, kept.regs, { kept.csrs with }, { kept.monitors with }, kept.memory.bytes,
    kept.memory.map⟩

end Sys2Proof.Machine
end

section
/-! PROOFS. Where an instruction stops (R362): each shared operation answers a next state, or stops as the obligations
allow, and every meaning is one of them. -/

namespace Sys2Proof.Machine

open Sys2Proof

variable {s : State} {rd : Reg}

/-- The only stops an instruction of this class may have: the refusal of a CSR that is none of the six, and the fault of
a read of a byte that holds no value. -/
structure StopsOnly (k : InstrClass) (s : State) (x : Result) : Prop where
  refused : ∀ r, x = .refused r → k = .csr ∧ ∃ csr, csr ∉ csrTable.map (·.1) ∧ r = .unknownCsr csr
  fault : ∀ f, x = .fault f → k ∈ [.load, .loadReserved, .amo] ∧
    ∃ addr n, f = .memoryHoldsNoValue addr n ∧ ∃ j < n, s.mem.read (addr.toNat + j) = none

theorem StopsOnly.next (k : InstrClass) (s t : State) : StopsOnly k s (.next t) := ⟨nofun, nofun⟩

/-! ## Reads of memory (R57) -/

/-- A read of bytes that gives nothing has a byte that holds no value. -/
theorem Memory.exists_read_eq_none {m : Memory} {n a : Nat} (h : m.readBytes n a = none) :
    ∃ j < n, m.read (a + j) = none := by
  induction n generalizing a with
  | zero => cases h
  | succ n ih =>
    cases first : m.read a with
    | none => exact ⟨0, Nat.succ_pos n, first⟩
    | some b =>
      cases rest : m.readBytes n (a + 1) with
      | none =>
        obtain ⟨j, hj, hr⟩ := ih rest
        exact ⟨j + 1, Nat.succ_lt_succ hj, by rwa [show a + (j + 1) = a + 1 + j by omega]⟩
      | some bs => simp [Memory.readBytes, first, rest] at h

theorem memRead_faults_inv {by' : AccessBy} {ks : List AccessKind} {n : Nat} {addr : Word} {f : Fault}
    (h : memRead by' ks n addr s = .faults f) :
    f = .memoryHoldsNoValue addr n ∧ ∃ j < n, s.mem.read (addr.toNat + j) = none := by
  unfold memRead at h
  split at h
  · cases h
  · split at h
    · cases h
    · split at h
      · next missing => cases h; exact ⟨rfl, Memory.exists_read_eq_none missing⟩
      · cases h

/-- A fault that a read of memory answers is one that a load, an `lr.w` and an AMO may stop with. -/
theorem StopsOnly.of_memRead {k : InstrClass} {by' : AccessBy} {ks : List AccessKind} {n : Nat} {addr : Word}
    {f : Fault} (hk : k ∈ [.load, .loadReserved, .amo]) (h : memRead by' ks n addr s = .faults f) :
    StopsOnly k s (.fault f) where
  refused := nofun
  fault := by
    rintro _ ⟨⟩
    obtain ⟨rfl, byte⟩ := memRead_faults_inv h
    exact ⟨hk, addr, n, rfl, byte⟩

theorem loadOp_stopsOnly {ilen addr : Word} {n : Nat} {ext : Word → Word} :
    StopsOnly .load s (loadOp ilen n ext rd addr s) := by
  unfold loadOp
  split
  · exact .next ..
  · next h => exact .of_memRead (by decide) h
  · exact .next ..

theorem execLrW_stopsOnly {rs1 : Reg} {aq rl : Bool} : StopsOnly .loadReserved s (execLrW rd rs1 aq rl s) := by
  unfold execLrW
  split
  · exact .next ..
  · next h => exact .of_memRead (by decide) h
  · exact .next ..

theorem amoOp_stopsOnly {op : Word → Word → Word} {rs2 rs1 : Reg} : StopsOnly .amo s (amoOp op rd rs2 rs1 s) := by
  unfold amoOp
  split
  · exact .next ..
  · next h => exact .of_memRead (by decide) h
  · exact .next ..

/-! ## The other operations -/

theorem storeOp_stopsOnly {k : InstrClass} {ilen addr v : Word} {n : Nat} :
    StopsOnly k s (storeOp ilen n addr v s) := by
  unfold storeOp
  split <;> exact .next ..

theorem branch_stopsOnly {k : InstrClass} {ilen target : Word} {taken : Bool} :
    StopsOnly k s (branch ilen taken target s) := by
  cases taken <;> exact .next ..

theorem execScW_stopsOnly {k : InstrClass} {rs2 rs1 : Reg} {aq rl : Bool} :
    StopsOnly k s (execScW rd rs2 rs1 aq rl s) := by
  unfold execScW
  split <;> exact .next ..

/-- A CSR address that names none of the six is refused (R36). -/
theorem StopsOnly.of_csrOf {csr : BitVec 12} (h : csrOf csr = none) :
    StopsOnly .csr s (.refused (.unknownCsr csr)) where
  refused := by
    rintro _ ⟨⟩
    refine ⟨rfl, csr, fun listed => ?_, rfl⟩
    obtain ⟨e, he, rfl⟩ := List.mem_map.1 listed
    rw [csrOf_of_mem_csrTable e he] at h
    cases h
  fault := nofun

theorem csrSwap_stopsOnly {csr : BitVec 12} {v : Word} : StopsOnly .csr s (csrSwap rd csr v s) := by
  unfold csrSwap
  split
  · next h => exact .of_csrOf h
  · split <;> exact .next ..

theorem csrModify_stopsOnly {csr : BitVec 12} {writes : Bool} {f : Word → Word} :
    StopsOnly .csr s (csrModify rd csr writes f s) := by
  unfold csrModify
  split
  · next h => exact .of_csrOf h
  · exact .next ..

/-! ## Every instruction -/

theorem exec_stopsOnly (i : Instr) (s : State) : StopsOnly (classOf i) s (exec i s) := by
  cases i
  case lw | lh | lhu | lb | lbu | cLw | cLwsp => exact loadOp_stopsOnly
  case sw | sh | sb | cSw | cSwsp => exact storeOp_stopsOnly
  case beq | bne | blt | bge | bltu | bgeu | cBeqz | cBnez => exact branch_stopsOnly
  case lrW rd rs1 aq rl => exact execLrW_stopsOnly (aq := aq) (rl := rl)
  case scW rd rs2 rs1 aq rl => exact execScW_stopsOnly (aq := aq) (rl := rl)
  case amoswapW | amoaddW | amoxorW | amoandW | amoorW | amominW | amomaxW | amominuW | amomaxuW =>
    exact amoOp_stopsOnly
  case csrrw | csrrwi => exact csrSwap_stopsOnly
  case csrrc | csrrs | csrrci | csrrsi =>
    simp only [exec] -- the arm is named first, for Lean to find the operand that is a function
    exact csrModify_stopsOnly
  all_goals exact .next .. -- no other meaning asks whether it can go on

/-- Settles O59: what may neither be refused nor fault answers a next state. -/
theorem instructionsNeverStopOtherwise : Obligations.InstructionsNeverStopOtherwise := by
  intro i s
  obtain ⟨refused, fault⟩ := exec_stopsOnly i s
  refine ⟨refused, fault, fun other => ?_⟩
  cases answer : exec i s with
  | next t => exact ⟨t, rfl⟩
  | fault f =>
    obtain ⟨reads, -⟩ := fault f answer
    have listed : [InstrClass.load, .loadReserved, .amo] ⊆ [.load, .loadReserved, .amo, .csr] := by decide
    exact absurd (listed reads) other
  | refused r =>
    obtain ⟨csr, -⟩ := refused r answer
    rw [csr] at other
    exact absurd (by decide) other

end Sys2Proof.Machine
end

section
/-! PROOFS. Cycles that depend on the instruction executed next (70_reset_and_hazards.md): the operands that the model
waits for are those of the obligations (R412, R413), so a charge of `1 + d` or `1 + max(d, e)` is theirs. -/

namespace Sys2Proof.Machine

open Sys2Proof

variable {s t u : State} {rd rs2 rs1 : Reg} {aq rl : Bool} {j : Instr} {addr v : Word}

/-! ## The operands of the instruction executed next -/

/-- The stage-2 operands of an instruction, but for the `x0` that some expansions name (R412, R419). -/
theorem early_iff_mem_stageTwo (h : rd ≠ 0) (j : Instr) : (reads j).early.contains rd = true ↔ rd ∈ stageTwo j := by
  rw [List.contains_iff_mem]
  cases j
  case cNop | cLi | cMv | cBeqz | cBnez =>
    simp [reads, expand, readsOf, stageTwo, storesData, classOf, sources, h]
  all_goals exact Iff.rfl

theorem late_iff_mem_openStage (rd : Reg) (j : Instr) : (reads j).late.contains rd = true ↔ rd ∈ openStage j := by
  rw [List.contains_iff_mem]
  cases j <;> exact Iff.rfl

theorem isExclusive_eq (j : Instr) :
    isExclusive j = [InstrClass.loadReserved, .storeConditional, .amo].contains (classOf j) := by
  cases j <;> rfl

theorem isExclusive_iff (j : Instr) :
    isExclusive j = true ↔ classOf j ∈ [.loadReserved, .storeConditional, .amo] := by
  rw [isExclusive_eq, List.contains_iff_mem]

/-! ## The two costs -/

/-- The model's `1 + d` (R412), in the obligations' words. -/
theorem dependencyCost_of_mem_stageTwo (h : rd ≠ 0) (hj : rd ∈ stageTwo j) :
    dependencyCost rd (some j) = .exactly 2 := by
  simp only [dependencyCost, if_neg h, if_pos ((early_iff_mem_stageTwo h j).2 hj)]

theorem dependencyCost_of_mem_openStage (h : rd ≠ 0) (hj : rd ∉ stageTwo j) (ho : rd ∈ openStage j) :
    dependencyCost rd (some j) = .between 1 2 := by
  simp only [dependencyCost, if_neg h, if_neg (mt (early_iff_mem_stageTwo h j).1 hj),
    if_pos ((late_iff_mem_openStage rd j).2 ho)]

theorem dependencyCost_of_independent (h : rd = 0 ∨ (rd ∉ stageTwo j ∧ rd ∉ openStage j)) :
    dependencyCost rd (some j) = .exactly 1 := by
  by_cases h0 : rd = 0
  · exact if_pos h0
  · obtain ⟨early, late⟩ := h.resolve_left h0
    simp only [dependencyCost, if_neg h0, if_neg (mt (early_iff_mem_stageTwo h0 j).1 early),
      if_neg (mt (late_iff_mem_openStage rd j).1 late)]

/-- A charge of the model's `1 + d` is the obligations', from a state that starts with the cycles of `s`. -/
theorem charge_dependencyCycles (cycles : u.cycles = s.cycles) :
    DependencyCycles rd j s (charge (dependencyCost rd (some j)) u) where
  dependent h hj := by rw [dependencyCost_of_mem_stageTwo h hj, charge_exactly_cycles, cycles]
  openCase h hj ho := by
    rw [dependencyCost_of_mem_openStage h hj ho, Took, charge_cycles, cycles]
    obtain ⟨least, most⟩ := between_cycles_range (Nat.le_succ 1) u.draws
    exact ⟨Nat.add_le_add_left least _, Nat.add_le_add_left most _⟩
  independent h := by rw [dependencyCost_of_independent h, charge_exactly_cycles, cycles]

/-- A charge of the model's `1 + max(d, e)` (R413) is the obligations'. -/
theorem charge_exclusiveCycles (cycles : u.cycles = s.cycles) :
    ExclusiveCycles rd j s (charge (exclusiveCost rd (some j)) u) where
  exclusive h := by
    rw [exclusiveCost, if_pos ((isExclusive_iff j).2 h), charge_exactly_cycles, cycles]
  other h := by
    rw [exclusiveCost, if_neg (mt (isExclusive_iff j).1 h)]
    exact charge_dependencyCycles cycles

/-- The instruction that a fetch gives after the charge is the one the charge was made for. -/
theorem nextInstr_of_fetchInstr_charge {c : Cost} (h : fetchInstr (charge c u) = .got j) : nextInstr u = some j := by
  have fetched : fetchInstr u = .got j := (fetchInstr_congr rfl rfl rfl rfl).symm.trans h
  simp only [nextInstr, fetched]

/-! ## The instructions -/

theorem multiply_dependencyCycles (h : multiply rd v s = .next t) (hj : fetchInstr t = .got j) :
    DependencyCycles rd j s t := by
  cases h
  rw [nextInstr_of_fetchInstr_charge hj]
  exact charge_dependencyCycles rfl

theorem loadOp_dependencyCycles {ilen w : Word} {n : Nat} {ext : Word → Word}
    (permitted : Permitted [.read] n addr s) (holds : HoldsAt n addr w s) (h : loadOp ilen n ext rd addr s = .next t)
    (hj : fetchInstr t = .got j) : DependencyCycles rd j s t := by
  rw [loadOp_value (memRead_of_holdsAt permitted holds)] at h
  cases h
  rw [nextInstr_of_fetchInstr_charge hj]
  exact charge_dependencyCycles rfl

/-- Every load of the obligations is `loadOp` of its width at its address. -/
theorem exec_loadsFrom {imm : BitVec 12} {u7 : BitVec 7} {u8 : BitVec 8} {e : Instr × Nat × Word}
    (h : e ∈ loadsFrom rd rs1 imm u7 u8 s) : ∃ ilen ext, exec e.1 s = loadOp ilen e.2.1 ext rd e.2.2 s := by
  simp only [loadsFrom, List.mem_cons, List.not_mem_nil, or_false] at h
  rcases h with rfl | rfl | rfl | rfl | rfl | rfl | rfl <;> exact ⟨_, _, rfl⟩

theorem execLrW_exclusiveCycles (permitted : Permitted exclusiveReadKinds 4 (readReg rs1 s) s)
    (holds : HoldsAt 4 (readReg rs1 s) v s) (h : exec (.lrW rd rs1 aq rl) s = .next t)
    (hj : fetchInstr t = .got j) : ExclusiveCycles rd j s t := by
  simp only [exec, execLrW, memRead_word_of_holdsAt permitted holds] at h
  cases h
  rw [nextInstr_of_fetchInstr_charge hj]
  exact charge_exclusiveCycles rfl

/-- An `sc.w` that raises nothing ends in `scDone`, from a state with the cycles it started with (R212). -/
theorem exec_scW_raisesNothing (rd rs2 : Reg) (aq rl : Bool) (raisesNothing : ScRaisesNothing (readReg rs1 s) s) :
    ∃ code u, exec (.scW rd rs2 rs1 aq rl) s = .next (scDone rd code u) ∧ u.cycles = s.cycles := by
  rw [exec_scW_aligned raisesNothing.aligned]
  rcases storeConditional_cases rd (readReg rs1 s) (readReg rs2 s) s with
    ⟨-, clear⟩ | ⟨-, -, lost⟩ | ⟨set, answered, e, raised, -⟩ | ⟨-, -, -, -, stored⟩
  · exact ⟨1, s, congrArg _ clear, rfl⟩
  · exact ⟨1, _, congrArg _ lost, rfl⟩
  · rcases raisesNothing.write with clear | ⟨writes, lost⟩ | permitted
    · rw [clear] at set; cases set
    · rw [writeAnswer_of_cons lost] at answered; cases answered
    · rw [memWrite_of_permitted ((OnlyAsked.refl s).afterWriteAnswer.permitted permitted)] at raised; cases raised
  · exact ⟨0, _, congrArg _ stored, rfl⟩

/-- Settles O10: each instruction's charge is for the instruction that the fetch then gives. -/
theorem dependentSuccessorCostsTwo : Obligations.DependentSuccessorCostsTwo := by
  intro s t rd rs1 rs2 imm u7 u8 aq rl v j hj
  refine ⟨fun h => multiply_dependencyCycles h hj, fun e he permitted holds h => ?load,
    fun permitted holds h => execLrW_exclusiveCycles permitted holds h hj, fun raisesNothing h => ?scW⟩
  case load =>
    obtain ⟨ilen, ext, meaning⟩ := exec_loadsFrom he
    exact loadOp_dependencyCycles permitted holds (meaning.symm.trans h) hj
  case scW =>
    obtain ⟨code, u, meaning, cycles⟩ := exec_scW_raisesNothing rd rs2 aq rl raisesNothing
    rw [meaning] at h
    cases h
    rw [scDone, nextInstr_of_fetchInstr_charge hj]
    exact charge_exclusiveCycles cycles

/-- Settles O11, by the general rule on each of the six pairs. -/
theorem sourceDependencyExamples : Obligations.SourceDependencyExamples := by
  intro s t v
  refine ⟨fun permitted holds => ⟨fun h => ?lw, fun aq rl aq' rl' h hj => ?lrW⟩,
    fun aq rl offset raisesNothing h hj => ?scW⟩
  case lw =>
    have read : Permitted [.read] 4 (readReg 10 s) s := permitted.mono (by decide)
    have meaning : exec (.lw 5 0 10) s = loadOp 4 4 id 5 (readReg 10 s) s :=
      congrArg (loadOp 4 4 id 5 · s) (BitVec.add_zero _)
    have cost {j : Instr} : fetchInstr t = .got j → DependencyCycles 5 j s t :=
      loadOp_dependencyCycles read holds (meaning.symm.trans h)
    exact ⟨fun hj => (cost hj).dependent (by decide) (by decide), fun hj => (cost hj).independent (by decide),
      fun hj => (cost hj).dependent (by decide) (by decide), fun hj => (cost hj).independent (by decide)⟩
  case lrW => exact (execLrW_exclusiveCycles permitted holds h hj).exclusive (List.mem_of_elem_eq_true rfl)
  case scW =>
    obtain ⟨-, -, -, cost⟩ := dependentSuccessorCostsTwo s t 6 10 5 0 0 0 aq rl v _ hj
    exact ((cost raisesNothing h).other (by simp [classOf])).dependent (by decide) List.mem_cons_self

end Sys2Proof.Machine
end

section
/-! PROOFS. Zba and Zbb (47_bitmanip_zba_zbb.md): the words that the model computes, as integers, bit by bit and byte by
byte; the instructions' results and the laws of R323 follow. -/

namespace Sys2Proof.Machine

open Sys2Proof

variable {v a b : Word} {i n k : Nat}

/-- An instruction whose meaning is `compute` of a word writes it to `rd`. -/
theorem does_wrote_of_compute {i : Instr} {s : State} {ilen v : Word} {rd : Reg}
    (meaning : exec i s = compute ilen rd v s) : Does i s (Wrote rd v) := by
  obtain ⟨t, next, computed⟩ := does_of_compute meaning rfl
  exact ⟨t, next, computed.result⟩

/-! ## Sums and extremes (R301 to R303, R308 to R311) -/

theorem shiftAdd_eq_ofNat (k : Nat) (a b : Word) : shiftAdd k a b = BitVec.ofNat 32 (b.toNat + 2 ^ k * a.toNat) := by
  refine BitVec.eq_of_toNat_eq ?_
  rw [shiftAdd, BitVec.toNat_add, BitVec.toNat_shiftLeft, Nat.shiftLeft_eq, BitVec.toNat_ofNat, Nat.add_mod_mod,
    Nat.mul_comm]

theorem ofNat_toNat_self (a : Word) : BitVec.ofNat 32 a.toNat = a := by rw [BitVec.ofNat_toNat, BitVec.setWidth_eq]

theorem shiftAdd_eq_add_mul (k : Nat) (a b : Word) : shiftAdd k a b = b + BitVec.ofNat 32 (2 ^ k) * a := by
  rw [shiftAdd_eq_ofNat, BitVec.ofNat_add, BitVec.ofNat_mul, ofNat_toNat_self, ofNat_toNat_self]

theorem maxSigned_eq_ofInt (a b : Word) : maxSigned a b = BitVec.ofInt 32 (Max.max a.toInt b.toInt) := by
  rw [maxSigned_eq, max_def_lt, apply_ite (BitVec.ofInt 32), BitVec.ofInt_toInt, BitVec.ofInt_toInt]

theorem minSigned_eq_ofInt (a b : Word) : minSigned a b = BitVec.ofInt 32 (Min.min a.toInt b.toInt) := by
  rw [minSigned_eq, min_def_lt, apply_ite (BitVec.ofInt 32), BitVec.ofInt_toInt, BitVec.ofInt_toInt]

theorem maxUnsigned_eq_ofNat (a b : Word) : maxUnsigned a b = BitVec.ofNat 32 (Max.max a.toNat b.toNat) := by
  rw [maxUnsigned_eq, max_def_lt, apply_ite (BitVec.ofNat 32), ofNat_toNat_self, ofNat_toNat_self]

theorem minUnsigned_eq_ofNat (a b : Word) : minUnsigned a b = BitVec.ofNat 32 (Min.min a.toNat b.toNat) := by
  rw [minUnsigned_eq, min_def_lt, apply_ite (BitVec.ofNat 32), ofNat_toNat_self, ofNat_toNat_self]

/-- Whichever of two words a test picks, the other is left for the opposite pick. -/
theorem ite_add_ite_swap (p : Prop) [Decidable p] (a b : Word) :
    (if p then a else b) + (if p then b else a) = a + b := by
  split
  · rfl
  · exact BitVec.add_comm b a

/-- Settles O33: a shift left by `k` multiplies by `2 ^ k`, modulo 2^32 as the sum is. -/
theorem shiftAddResults : Obligations.ShiftAddResults := by
  rintro s rd rs1 rs2 a b rfl rfl
  exact ⟨does_of_compute rfl (shiftAdd_eq_ofNat 1 _ _), does_of_compute rfl (shiftAdd_eq_ofNat 2 _ _),
    does_of_compute rfl (shiftAdd_eq_ofNat 3 _ _)⟩

/-- Settles O34: the extremes are the integers', compared as the instruction says. -/
theorem logicAndMinMaxResults : Obligations.LogicAndMinMaxResults := by
  rintro s rd rs1 rs2 a b rfl rfl
  exact ⟨does_of_compute rfl rfl, does_of_compute rfl rfl, does_of_compute rfl rfl,
    does_of_compute rfl (maxSigned_eq_ofInt _ _), does_of_compute rfl (minSigned_eq_ofInt _ _),
    does_of_compute rfl (maxUnsigned_eq_ofNat _ _), does_of_compute rfl (minUnsigned_eq_ofNat _ _)⟩

/-! ## Counts (R305 to R307) -/

/-- How many elements of a list come before the first that fails a test. -/
theorem length_takeWhile_not {α : Type} (p : α → Bool) (l : List α) :
    (l.takeWhile fun x => !p x).length = l.findIdx p := by
  rw [List.takeWhile_eq_take_findIdx_not, List.length_take]
  simp [List.findIdx_le_length]

theorem clz32_eq_findIdx (v : Word) : clz32 v = (List.range 32).reverse.findIdx (v.getLsbD ·) :=
  length_takeWhile_not _ _

theorem ctz32_eq_findIdx (v : Word) : ctz32 v = (List.range 32).findIdx (v.getLsbD ·) :=
  length_takeWhile_not _ _

theorem clz32_le (v : Word) : clz32 v ≤ 32 := by
  rw [clz32_eq_findIdx]
  exact List.findIdx_le_length

theorem ctz32_le (v : Word) : ctz32 v ≤ 32 := by
  rw [ctz32_eq_findIdx]
  exact List.findIdx_le_length

/-- The bits above the highest 1 are 0. -/
theorem getLsbD_of_lt_clz32 (h : i < clz32 v) : v.getLsbD (31 - i) = false := by
  rw [clz32_eq_findIdx] at h
  simpa using List.not_of_lt_findIdx h

/-- The bits below the lowest 1 are 0. -/
theorem getLsbD_of_lt_ctz32 (h : i < ctz32 v) : v.getLsbD i = false := by
  rw [ctz32_eq_findIdx] at h
  simpa using List.not_of_lt_findIdx h

theorem getLsbD_clz32 (h : clz32 v < 32) : v.getLsbD (31 - clz32 v) = true := by
  rw [clz32_eq_findIdx] at h ⊢
  have inside : (List.range 32).reverse.findIdx (v.getLsbD ·) < (List.range 32).reverse.length := by
    rwa [List.length_reverse, List.length_range]
  simpa using List.findIdx_getElem (w := inside)

theorem getLsbD_ctz32 (h : ctz32 v < 32) : v.getLsbD (ctz32 v) = true := by
  rw [ctz32_eq_findIdx] at h ⊢
  have inside : (List.range 32).findIdx (v.getLsbD ·) < (List.range 32).length := by rwa [List.length_range]
  simpa using List.findIdx_getElem (w := inside)

/-- The number of positions that hold 1. -/
theorem cpop32_eq_card (v : Word) :
    cpop32 v = (Finset.univ.filter fun i : Fin 32 => v.getLsbD i.val = true).card := by
  have count : cpop32 v = Nat.count (v.getLsbD · = true) 32 := by simp only [cpop32, Nat.count, Bool.decide_eq_true]
  rw [count, Nat.count_eq_card_filter_range, Finset.card_filter, Finset.card_filter, Finset.sum_range]

/-- Settles O35: a count of zeros is the index of the first 1 from its end. -/
theorem bitCountResults : Obligations.BitCountResults := by
  rintro s rd rs1 a rfl
  exact ⟨⟨_, clz32_le _, fun _ => getLsbD_of_lt_clz32, getLsbD_clz32, does_of_compute rfl rfl⟩,
    ⟨_, ctz32_le _, fun _ => getLsbD_of_lt_ctz32, getLsbD_ctz32, does_of_compute rfl rfl⟩,
    does_of_compute rfl (congrArg _ (cpop32_eq_card _))⟩

/-- Only for 0 are there 32 zeros above the highest 1. -/
theorem clz32_lt (h : v ≠ 0) : clz32 v < 32 := by
  refine lt_of_le_of_ne (clz32_le v) fun all => h (BitVec.eq_of_getLsbD_eq fun i hi => ?_)
  have bit : v.getLsbD (31 - (31 - i)) = false := getLsbD_of_lt_clz32 (by omega)
  rw [show 31 - (31 - i) = i by omega] at bit
  exact bit.trans BitVec.getLsbD_zero.symm

/-- The highest 1 is not below the lowest. -/
theorem clz32_add_ctz32_le (h : v ≠ 0) : clz32 v + ctz32 v ≤ 31 := by
  have lt := clz32_lt h
  have highest := getLsbD_clz32 lt
  by_contra below
  have zero : v.getLsbD (31 - clz32 v) = false := getLsbD_of_lt_ctz32 (by omega)
  rw [zero] at highest
  cases highest

theorem cpop32_eq_zero_iff (v : Word) : cpop32 v = 0 ↔ v = 0 := by
  rw [cpop32, List.countP_eq_zero]
  constructor
  · intro zeros
    refine BitVec.eq_of_getLsbD_eq fun i hi => ?_
    exact (Bool.eq_false_of_not_eq_true (zeros i (List.mem_range.2 hi))).trans BitVec.getLsbD_zero.symm
  · rintro rfl i -
    simp

/-! ## Bytes (R312, R314) -/

/-- Byte `i` of four bytes put together, the highest first. -/
theorem append_byte (b3 b2 b1 b0 : Byte) (h : i < 4) :
    ((b3 ++ b2 ++ b1 ++ b0 : Word) >>> (8 * i)).setWidth 8 = [b0, b1, b2, b3][i] := by
  rw [← joinBytes_four]
  exact joinBytes_byte (bs := [b0, b1, b2, b3]) (Nat.le_refl 4) h

/-- Words with the same four bytes are the same. -/
theorem eq_of_bytes_eq (h : ∀ i < 4, (a >>> (8 * i)).setWidth 8 = (b >>> (8 * i)).setWidth 8) : a = b := by
  refine BitVec.eq_of_getLsbD_eq fun i hi => ?_
  have byte := congrArg (BitVec.getLsbD · (i % 8)) (h (i / 8) (by omega))
  simpa [BitVec.getLsbD_setWidth, BitVec.getLsbD_ushiftRight, Nat.mod_lt, Nat.div_add_mod] using byte

theorem orcBytes_byte (v : Word) (h : i < 4) :
    (orcBytes v >>> (8 * i)).setWidth 8 = orCombine ((v >>> (8 * i)).setWidth 8) := by
  rw [orcBytes, append_byte _ _ _ _ h]
  match i with
  | 0 | 1 | 2 | 3 => rfl

theorem reverseBytes_byte (v : Word) (h : i < 4) :
    (reverseBytes v >>> (8 * i)).setWidth 8 = (v >>> (8 * (3 - i))).setWidth 8 := by
  rw [reverseBytes, append_byte _ _ _ _ h]
  match i with
  | 0 | 1 | 2 | 3 => rfl

theorem orCombine_orCombine (b : Byte) : orCombine (orCombine b) = orCombine b := by
  by_cases h : b = 0 <;> simp [orCombine, h]

theorem orcBytes_orcBytes (v : Word) : orcBytes (orcBytes v) = orcBytes v :=
  eq_of_bytes_eq fun i hi => by
    rw [orcBytes_byte _ hi, orcBytes_byte _ hi, orCombine_orCombine]

theorem reverseBytes_reverseBytes (v : Word) : reverseBytes (reverseBytes v) = v :=
  eq_of_bytes_eq fun i hi => by
    rw [reverseBytes_byte _ hi, reverseBytes_byte _ (by omega), show 3 - (3 - i) = i by omega]

/-! ## Rotations (R315 to R317) -/

theorem rol32_eq_rotateLeft (v : Word) (h : n < 32) : rol32 v n = v.rotateLeft n := by
  rw [BitVec.rotateLeft_def, Nat.mod_eq_of_lt h, rol32]
  split
  · next zero => simp [zero, BitVec.ushiftRight_eq_zero]
  · rfl

theorem ror32_eq_rotateRight (v : Word) (h : n < 32) : ror32 v n = v.rotateRight n := by
  rw [BitVec.rotateRight_def, Nat.mod_eq_of_lt h, ror32]
  split
  · next zero => simp [zero]
  · rfl

/-- A rotation to the right by `n` brings bit `i + n` to bit `i`. -/
theorem ror32_getLsbD (v : Word) (h : n < 32) (hi : i < 32) : (ror32 v n).getLsbD i = v.getLsbD ((i + n) % 32) := by
  rw [ror32_eq_rotateRight v h, BitVec.getLsbD_rotateRight, Nat.mod_eq_of_lt h]
  by_cases wraps : i < 32 - n
  · rw [decide_eq_true wraps, cond_true, Nat.mod_eq_of_lt (by omega), Nat.add_comm]
  · rw [decide_eq_false wraps, cond_false, decide_eq_true hi, Bool.true_and, show (i + n) % 32 = i - (32 - n) by omega]

/-- A rotation to the left by `n` is one to the right by the rest. -/
theorem rol32_eq_ror32 (v : Word) (h : n < 32) : rol32 v n = ror32 v ((32 - n) % 32) := by
  refine BitVec.eq_of_getLsbD_eq fun i hi => ?_
  rw [ror32_getLsbD v (Nat.mod_lt _ (by decide)) hi, rol32_eq_rotateLeft v h, BitVec.getLsbD_rotateLeft,
    Nat.mod_eq_of_lt h]
  by_cases wraps : i < n
  · rw [decide_eq_true wraps, cond_true, show (i + (32 - n) % 32) % 32 = 32 - n + i by omega]
  · rw [decide_eq_false wraps, cond_false, decide_eq_true hi, Bool.true_and,
      show (i + (32 - n) % 32) % 32 = i - n by omega]

/-- A rotation to the left by `n` takes bit `i` to bit `i + n`. -/
theorem rol32_getLsbD (v : Word) (h : n < 32) (hi : i < 32) : (rol32 v n).getLsbD ((i + n) % 32) = v.getLsbD i := by
  rw [rol32_eq_ror32 v h, ror32_getLsbD v (Nat.mod_lt _ (by decide)) (Nat.mod_lt _ (by decide)),
    show ((i + n) % 32 + (32 - n) % 32) % 32 = i by omega]

/-- Settles O36: a rotation's amount matters modulo 32 only. -/
theorem byteAndRotateResults : Obligations.ByteAndRotateResults := by
  rintro s rd rs1 rs2 shamt a b rfl rfl
  have amount : lowFive (readReg rs2 s) = (readReg rs2 s).toNat % 32 := lowFive_eq_mod _
  have bound : lowFive (readReg rs2 s) < 32 := amount ▸ Nat.mod_lt _ (by decide)
  have index (i : Nat) : (i + (readReg rs2 s).toNat) % 32 = (i + lowFive (readReg rs2 s)) % 32 := by
    rw [amount, Nat.add_mod_mod]
  refine ⟨⟨_, fun _ => orcBytes_byte _, does_of_compute rfl rfl⟩,
    ⟨_, fun _ => reverseBytes_byte _, does_of_compute rfl rfl⟩,
    does_of_compute rfl rfl, does_of_compute rfl rfl, does_of_compute rfl rfl,
    ⟨_, fun i hi => ?rol, does_of_compute rfl rfl⟩, ⟨_, fun i hi => ?ror, does_of_compute rfl rfl⟩,
    ⟨_, fun i hi => ror32_getLsbD _ shamt.isLt hi, does_of_compute rfl rfl⟩⟩
  case rol => rw [index]; exact rol32_getLsbD _ bound hi
  case ror => rw [index]; exact ror32_getLsbD _ bound hi

/-! ## Extensions (R318, R319, R321, R323) -/

theorem zextHalf_eq_and (v : Word) : zextHalf v = v &&& 0x0000FFFF#32 := by
  refine BitVec.eq_of_getLsbD_eq fun i hi => ?_
  have mask : 0x0000FFFF#32 = (BitVec.allOnes 16).setWidth 32 := by decide
  rw [BitVec.getLsbD_and, mask, zextHalf, BitVec.getLsbD_setWidth, BitVec.getLsbD_setWidth, BitVec.getLsbD_extractLsb,
    BitVec.getLsbD_allOnes, Nat.zero_add, decide_eq_true hi, Bool.true_and, Bool.true_and, Bool.and_comm]

/-- The low `k` bits extended by their sign are the bits shifted to the top and back (R323). -/
theorem signExtend_extractLsb'_eq_shifts (v : Word) (hk : 0 < k) (h : k ≤ 32) :
    (v.extractLsb' 0 k).signExtend 32 = (v <<< (32 - k)).sshiftRight (32 - k) := by
  refine BitVec.eq_of_getLsbD_eq fun i hi => ?_
  rw [BitVec.getLsbD_signExtend, BitVec.getLsbD_sshiftRight, BitVec.msb_eq_getLsbD_last, BitVec.msb_eq_getLsbD_last,
    decide_eq_true hi, decide_eq_false (Nat.not_le.2 hi), Bool.not_false]
  congr 1
  by_cases low : i < k
  · rw [if_pos low, if_pos (show 32 - k + i < 32 by omega), BitVec.getLsbD_extractLsb', BitVec.getLsbD_shiftLeft]
    simp [low, show 32 - k + i < 32 by omega]
  · rw [if_neg low, if_neg (show ¬ 32 - k + i < 32 by omega), BitVec.getLsbD_extractLsb', BitVec.getLsbD_shiftLeft]
    simp [hk, show ¬ 31 < 32 - k by omega, show 31 - (32 - k) = k - 1 by omega]

theorem sextByte_eq_shifts (v : Word) : sextByte v = (v <<< 24).sshiftRight 24 :=
  signExtend_extractLsb'_eq_shifts v (k := 8) (by decide) (by decide)

theorem sextHalf_eq_shifts (v : Word) : sextHalf v = (v <<< 16).sshiftRight 16 :=
  signExtend_extractLsb'_eq_shifts v (k := 16) (by decide) (by decide)

/-- Settles O39: the laws are those of the functions, and each is `compute`d by its instruction. -/
theorem bitManipulationLaws : Obligations.BitManipulationLaws := by
  intro a b v n hn
  refine ⟨shiftAdd_eq_add_mul 1 a b, shiftAdd_eq_add_mul 2 a b, shiftAdd_eq_add_mul 3 a b, ?instructions,
    BitVec.not_xor_right, clz32_add_ctz32_le, by decide, by decide,
    cpop32_eq_zero_iff v, rol32_eq_ror32 v hn, reverseBytes_reverseBytes v, orcBytes_orcBytes v,
    ite_add_ite_swap _ a b, ite_add_ite_swap _ a b, zextHalf_eq_and v, sextByte_eq_shifts v,
    sextHalf_eq_shifts v⟩
  rintro s rd rs1 rs2 shamt rfl rfl
  have amount : lowFive (readReg rs2 s) = (readReg rs2 s).toNat % 32 := lowFive_eq_mod _
  rw [← amount]
  and_intros
  all_goals exact does_wrote_of_compute rfl

end Sys2Proof.Machine
end

section
/-! PROOFS. Zbc and Zbs (48_bitmanip_zbc_zbs.md): the bits of the carry-less product and of a word with one bit changed;
the instructions' results and the laws of R341 follow. -/

namespace Sys2Proof.Machine

open Sys2Proof

variable {a b c : Word} {i k n : Nat}

/-! ## The carry-less product (R330) -/

/-- One step of the carry-less product: `a << i` added where bit `i` of `b` is 1. -/
def addShifted (a b : Word) (p : BitVec 64) (i : Nat) : BitVec 64 :=
  if b.getLsbD i then p ^^^ (a.setWidth 64 <<< i) else p

theorem carrylessProduct_eq_foldl (a b : Word) : carrylessProduct a b = (List.range 32).foldl (addShifted a b) 0 := rfl

/-- The term of position `i` in bit `k` of the product. -/
theorem addShifted_getLsbD (a b : Word) (p : BitVec 64) (i : Nat) (hk : k < 64) : (addShifted a b p i).getLsbD k =
    (p.getLsbD k ^^ (b.getLsbD i && (decide (i ≤ k) && a.getLsbD (k - i)))) := by
  rw [addShifted]
  cases b.getLsbD i with
  | false => simp
  | true =>
    rw [if_pos rfl, BitVec.getLsbD_xor, BitVec.getLsbD_shiftLeft, BitVec.getLsbD_setWidth]
    simp [hk, show k - i < 64 by omega, ← decide_not]

/-- Bit `k` of the product over some positions is the parity of the positions whose term is 1. -/
theorem foldl_addShifted_getLsbD (a b : Word) (l : List Nat) (p : BitVec 64) (hk : k < 64) :
    (l.foldl (addShifted a b) p).getLsbD k = (p.getLsbD k ^^
      ((l.countP fun i => b.getLsbD i && (decide (i ≤ k) && a.getLsbD (k - i))) % 2 == 1)) := by
  induction l generalizing p with
  | nil => simp
  | cons i l ih =>
    rw [List.foldl_cons, ih, addShifted_getLsbD a b p i hk, List.countP_cons, Bool.xor_assoc]
    congr 1
    cases b.getLsbD i && (decide (i ≤ k) && a.getLsbD (k - i)) with
    | false => simp
    | true =>
      rcases Nat.mod_two_eq_zero_or_one (l.countP fun i => b.getLsbD i && (decide (i ≤ k) && a.getLsbD (k - i))) with
        h | h <;> simp [Nat.add_mod, h]

theorem carrylessProduct_getLsbD (a b : Word) (hk : k < 64) : (carrylessProduct a b).getLsbD k =
    (((List.range 32).countP fun i => b.getLsbD i && (decide (i ≤ k) && a.getLsbD (k - i))) % 2 == 1) := by
  rw [carrylessProduct_eq_foldl, foldl_addShifted_getLsbD a b _ _ hk]
  simp

/-- Settles O37: the product's bits are the parities, and the instructions take its slices. -/
theorem carrylessProductResults : Obligations.CarrylessProductResults := by
  rintro s rd rs1 rs2 a b rfl rfl
  exact ⟨carrylessProduct (readReg rs1 s) (readReg rs2 s), fun _ => carrylessProduct_getLsbD _ _,
    does_of_compute rfl rfl, does_of_compute rfl rfl, does_of_compute rfl rfl⟩

theorem addShifted_xor (a b c : Word) (p q : BitVec 64) (i : Nat) :
    addShifted a (b ^^^ c) (p ^^^ q) i = addShifted a b p i ^^^ addShifted a c q i := by
  simp only [addShifted, BitVec.getLsbD_xor]
  generalize a.setWidth 64 <<< i = x
  cases b.getLsbD i with
  | false =>
    cases c.getLsbD i with
    | false => rfl
    | true => exact BitVec.xor_assoc p q x
  | true =>
    cases c.getLsbD i with
    | false => exact (by ac_rfl : p ^^^ q ^^^ x = (p ^^^ x) ^^^ q)
    | true =>
      have cancels : (p ^^^ x) ^^^ (q ^^^ x) = p ^^^ q ^^^ (x ^^^ x) := by ac_rfl
      rw [BitVec.xor_self, BitVec.xor_zero] at cancels
      exact cancels.symm

/-- Each step of the product is additive, so the product is. -/
theorem carrylessProduct_xor (a b c : Word) :
    carrylessProduct a (b ^^^ c) = carrylessProduct a b ^^^ carrylessProduct a c := by
  have steps (l : List Nat) (p q : BitVec 64) : l.foldl (addShifted a (b ^^^ c)) (p ^^^ q) =
      l.foldl (addShifted a b) p ^^^ l.foldl (addShifted a c) q := by
    induction l generalizing p q with
    | nil => rfl
    | cons i l ih => rw [List.foldl_cons, List.foldl_cons, List.foldl_cons, addShifted_xor, ih]
  exact steps _ 0 0

theorem getLsbD_bitMask (h : n < 32) (i : Nat) : (bitMask n).getLsbD i = decide (i = n) := by
  rw [bitMask, ← BitVec.twoPow_eq, BitVec.getLsbD_twoPow, decide_eq_true h, Bool.true_and]
  exact decide_eq_decide.2 eq_comm

/-- A product with one bit is a shift. -/
theorem carrylessProduct_bitMask (a : Word) (h : k < 32) : carrylessProduct a (bitMask k) = a.setWidth 64 <<< k := by
  have steps (n : Nat) : (List.range n).foldl (addShifted a (bitMask k)) 0 =
      if k < n then a.setWidth 64 <<< k else 0 := by
    induction n with
    | zero => rfl
    | succ n ih =>
      rw [List.range_succ, List.foldl_append, ih, List.foldl_cons, List.foldl_nil, addShifted, getLsbD_bitMask h]
      rcases Nat.lt_trichotomy k n with less | rfl | more
      · simp [less, less.ne', Nat.lt_succ_of_lt less]
      · simp
      · simp [more.ne, more.not_gt, show ¬ k < n + 1 by omega]
  rw [carrylessProduct_eq_foldl, steps, if_pos h]

theorem carrylessProduct_zero (a : Word) : carrylessProduct a 0 = 0 := by
  have twice := carrylessProduct_xor a 0 0
  rwa [BitVec.xor_self, BitVec.xor_self] at twice

theorem carrylessProduct_one (a : Word) : carrylessProduct a 1 = a.setWidth 64 := by
  rw [show (1 : Word) = bitMask 0 from rfl, carrylessProduct_bitMask a (by decide), BitVec.shiftLeft_zero]

/-- Bits 62:31 are bits 63:32 moved up, with bit 31 below them. -/
theorem clmulReversed_eq_or (a b : Word) : clmulReversed a b = (clmulHigh a b <<< 1) ||| (clmulLow a b >>> 31) := by
  refine BitVec.eq_of_getLsbD_eq fun i hi => ?_
  rw [clmulReversed, clmulHigh, clmulLow]
  generalize carrylessProduct a b = p
  rw [BitVec.getLsbD_or, BitVec.getLsbD_shiftLeft, BitVec.getLsbD_ushiftRight, BitVec.getLsbD_extractLsb,
    BitVec.getLsbD_extractLsb, BitVec.getLsbD_extractLsb]
  cases i with
  | zero => simp
  | succ i => simp [hi, show i < 32 by omega, show 31 + (i + 1) = 32 + i by omega]

/-! ## One bit (R333 to R340) -/

theorem bitClear_getLsbD (a : Word) (h : n < 32) (hi : i < 32) :
    (bitClear a n).getLsbD i = if i = n then false else a.getLsbD i := by
  rw [bitClear, BitVec.getLsbD_and, BitVec.getLsbD_not, getLsbD_bitMask h, decide_eq_true hi, Bool.true_and]
  by_cases same : i = n <;> simp [same]

theorem bitSet_getLsbD (a : Word) (h : n < 32) (i : Nat) :
    (bitSet a n).getLsbD i = if i = n then true else a.getLsbD i := by
  rw [bitSet, BitVec.getLsbD_or, getLsbD_bitMask h]
  by_cases same : i = n <;> simp [same]

theorem bitInvert_getLsbD (a : Word) (h : n < 32) (i : Nat) :
    (bitInvert a n).getLsbD i = if i = n then !a.getLsbD i else a.getLsbD i := by
  rw [bitInvert, BitVec.getLsbD_xor, getLsbD_bitMask h]
  by_cases same : i = n <;> simp [same]

theorem bitExtract_eq_ite (a : Word) (n : Nat) : bitExtract a n = if a.getLsbD n then 1 else 0 := by
  rw [bitExtract, show (1 : Word) = 1#32 from rfl, BitVec.and_one_eq_setWidth_ofBool_getLsbD,
    BitVec.getLsbD_ushiftRight, Nat.add_zero]
  cases a.getLsbD n <;> rfl

/-- Settles O38: the index is below 32 both ways. -/
theorem singleBitResults : Obligations.SingleBitResults := by
  rintro s rd rs1 rs2 shamt a n rfl
  refine ⟨fun index => ?register, ?immediate⟩
  case register =>
    have bound : lowFive (readReg rs2 s) < 32 := lowFive_eq_mod (readReg rs2 s) ▸ Nat.mod_lt _ (by decide)
    obtain rfl : n = lowFive (readReg rs2 s) := index.trans (lowFive_eq_mod _).symm
    exact ⟨⟨_, fun _ => bitClear_getLsbD _ bound, does_of_compute rfl rfl⟩,
      ⟨_, fun i _ => bitSet_getLsbD _ bound i, does_of_compute rfl rfl⟩,
      ⟨_, fun i _ => bitInvert_getLsbD _ bound i, does_of_compute rfl rfl⟩,
      does_of_compute rfl (bitExtract_eq_ite _ _)⟩
  case immediate =>
    rintro rfl
    exact ⟨⟨_, fun _ => bitClear_getLsbD _ shamt.isLt, does_of_compute rfl rfl⟩,
      ⟨_, fun i _ => bitSet_getLsbD _ shamt.isLt i, does_of_compute rfl rfl⟩,
      ⟨_, fun i _ => bitInvert_getLsbD _ shamt.isLt i, does_of_compute rfl rfl⟩,
      does_of_compute rfl (bitExtract_eq_ite _ _)⟩

/-- Bit `n` is what a mask of that bit leaves. -/
theorem and_bitMask_ne_zero_iff (a : Word) (h : n < 32) : a &&& bitMask n ≠ 0 ↔ a.getLsbD n = true := by
  have mask : bitMask n ≠ 0 := fun zero => by
    have bit := getLsbD_bitMask h n
    rw [zero] at bit
    simp at bit
  rw [bitMask, ← BitVec.twoPow_eq] at mask ⊢
  rw [BitVec.and_twoPow]
  cases a.getLsbD n <;> simp_all

theorem bitExtract_bitSet (a : Word) (h : n < 32) : bitExtract (bitSet a n) n = 1 := by
  rw [bitExtract_eq_ite, bitSet_getLsbD a h, if_pos rfl, if_pos rfl]

theorem bitExtract_bitClear (a : Word) (h : n < 32) : bitExtract (bitClear a n) n = 0 := by
  rw [bitExtract_eq_ite, bitClear_getLsbD a h h, if_pos rfl, if_neg Bool.false_ne_true]

theorem bitInvert_bitInvert (a : Word) (n : Nat) : bitInvert (bitInvert a n) n = a := by
  rw [bitInvert, bitInvert, BitVec.xor_assoc, BitVec.xor_self, BitVec.xor_zero]

/-- Settles O40: the laws are those of the functions, and each is `compute`d by its instruction. -/
theorem carrylessAndBitLaws : Obligations.CarrylessAndBitLaws := by
  rintro a b c m n k hn hk rfl
  refine ⟨?instructions, rfl, rfl, rfl, ?extract, bitExtract_bitSet a hn, bitExtract_bitClear a hn,
    bitInvert_bitInvert a n, carrylessProduct_zero a, carrylessProduct_one a, carrylessProduct_xor a b c,
    carrylessProduct_bitMask a hk, rfl, rfl, rfl, clmulReversed_eq_or a b⟩
  case extract => exact (bitExtract_eq_ite a n).trans (if_congr (and_bitMask_ne_zero_iff a hn).symm rfl rfl)
  case instructions =>
    rintro s rd rs1 rs2 shamt rfl rfl
    rw [← lowFive_eq_mod]
    and_intros
    all_goals exact does_wrote_of_compute rfl

end Sys2Proof.Machine
end
